-- ==== Sys2Proof/Word.lean ====
section
/-! DEFINITION. The word types of the block (00_scope.md R5) and the six stored flags of `P` (10_state.md R17, R20). -/

namespace Sys2Proof

/-- Eight bits: registers, memory cells, operand bytes (R5). -/
abbrev Byte := BitVec 8

/-- Sixteen bits: `PC` and every CPU address (R5). -/
abbrev Word := BitVec 16

/-- Fourteen bits: the video memory pointer (10_state.md R31). -/
abbrev VAddr := BitVec 14

/-- The six flags that are storage; B and U exist only in a pushed copy (10_state.md R20). -/
structure Flags where
  n : Bool
  v : Bool
  d : Bool
  i : Bool
  z : Bool
  c : Bool
  deriving DecidableEq, Repr

end Sys2Proof
end

