-- ==== Sys2Proof/Machine/Bits.lean ====
section
/-! DEFINITION. Byte and bit-field helpers of the notation (00_scope.md R7): byte order, pages, extensions. -/

namespace Sys2Proof

/-- `word(hi, lo) = hi * 256 + lo` (R7); with `lo` at the lower address this is the byte order of 20_memory.md R49. -/
def word (hi lo : Byte) : Word := hi ++ lo

/-- Bits 7 to 0 of a word. -/
def loByte (w : Word) : Byte := w.extractLsb' 0 8

/-- Bits 15 to 8 of a word. -/
def hiByte (w : Word) : Byte := w.extractLsb' 8 8

/-- `page(a) = a[15:8]` (R7). -/
def page (a : Word) : Byte := hiByte a

/-- An operand byte as an address in page zero (30_encoding.md R73 c). -/
def zeroPage (d : Byte) : Word := d.setWidth 16

/-- `sext_8(v)`, to be added to an address (R7, 30_encoding.md R73 b). -/
def sext8 (d : Byte) : Word := d.signExtend 16

/-- Bit 7, the sign bit (R7). -/
def bit7 (v : Byte) : Bool := v.getLsbD 7

end Sys2Proof
end

