-- ==== Sys2Proof/Syntax.lean ====
section
/-! DEFINITION. The instructions: one constructor per row of spec/opcode_table.json (30_encoding.md R76, R79, R83),
and the operand forms of R72. A constructor's `d` is the operand byte `d8`, its `w` the operand `word(hi, lo)` (R73). -/

namespace Sys2Proof

/-- The operand forms an instruction reads or writes its operand through (30_encoding.md R72): the eight resolver modes
of 40_addressing_and_stack.md R101 to R108, and `acc` and `imm` of R110. -/
inductive Operand where
  | acc
  | imm (d : Byte)
  | zp (d : Byte)
  | zpx (d : Byte)
  | zpy (d : Byte)
  | abs (w : Word)
  | absx (w : Word)
  | absy (w : Word)
  | indx (d : Byte)
  | indy (d : Byte)
  deriving DecidableEq, Repr

/-- The instructions. The comment of a row is its opcode byte and the rule with its meaning. -/
inductive Instr where
  -- Loads, stores, register transfers and stack instructions (41_load_store_transfer.md)
  | ldaImm (d : Byte)   -- A9, R120
  | ldaZp (d : Byte)   -- A5, R120
  | ldaZpx (d : Byte)   -- B5, R120
  | ldaAbs (w : Word)   -- AD, R120
  | ldaAbsx (w : Word)   -- BD, R120
  | ldaAbsy (w : Word)   -- B9, R120
  | ldaIndx (d : Byte)   -- A1, R120
  | ldaIndy (d : Byte)   -- B1, R120
  | ldxImm (d : Byte)   -- A2, R121
  | ldxZp (d : Byte)   -- A6, R121
  | ldxZpy (d : Byte)   -- B6, R121
  | ldxAbs (w : Word)   -- AE, R121
  | ldxAbsy (w : Word)   -- BE, R121
  | ldyImm (d : Byte)   -- A0, R122
  | ldyZp (d : Byte)   -- A4, R122
  | ldyZpx (d : Byte)   -- B4, R122
  | ldyAbs (w : Word)   -- AC, R122
  | ldyAbsx (w : Word)   -- BC, R122
  | staZp (d : Byte)   -- 85, R123
  | staZpx (d : Byte)   -- 95, R123
  | staAbs (w : Word)   -- 8D, R123
  | staAbsx (w : Word)   -- 9D, R123
  | staAbsy (w : Word)   -- 99, R123
  | staIndx (d : Byte)   -- 81, R123
  | staIndy (d : Byte)   -- 91, R123
  | stxZp (d : Byte)   -- 86, R124
  | stxZpy (d : Byte)   -- 96, R124
  | stxAbs (w : Word)   -- 8E, R124
  | styZp (d : Byte)   -- 84, R125
  | styZpx (d : Byte)   -- 94, R125
  | styAbs (w : Word)   -- 8C, R125
  | tax   -- AA, R126
  | tay   -- A8, R127
  | txa   -- 8A, R128
  | tya   -- 98, R129
  | tsx   -- BA, R130
  | txs   -- 9A, R131
  | pha   -- 48, R132
  | php   -- 08, R133
  | pla   -- 68, R134
  | plp   -- 28, R135
  -- Arithmetic, logic, compare and bit test (42_arithmetic_logic_compare.md)
  | adcImm (d : Byte)   -- 69, R140
  | adcZp (d : Byte)   -- 65, R140
  | adcZpx (d : Byte)   -- 75, R140
  | adcAbs (w : Word)   -- 6D, R140
  | adcAbsx (w : Word)   -- 7D, R140
  | adcAbsy (w : Word)   -- 79, R140
  | adcIndx (d : Byte)   -- 61, R140
  | adcIndy (d : Byte)   -- 71, R140
  | sbcImm (d : Byte)   -- E9, R141
  | sbcZp (d : Byte)   -- E5, R141
  | sbcZpx (d : Byte)   -- F5, R141
  | sbcAbs (w : Word)   -- ED, R141
  | sbcAbsx (w : Word)   -- FD, R141
  | sbcAbsy (w : Word)   -- F9, R141
  | sbcIndx (d : Byte)   -- E1, R141
  | sbcIndy (d : Byte)   -- F1, R141
  | andImm (d : Byte)   -- 29, R142
  | andZp (d : Byte)   -- 25, R142
  | andZpx (d : Byte)   -- 35, R142
  | andAbs (w : Word)   -- 2D, R142
  | andAbsx (w : Word)   -- 3D, R142
  | andAbsy (w : Word)   -- 39, R142
  | andIndx (d : Byte)   -- 21, R142
  | andIndy (d : Byte)   -- 31, R142
  | oraImm (d : Byte)   -- 09, R143
  | oraZp (d : Byte)   -- 05, R143
  | oraZpx (d : Byte)   -- 15, R143
  | oraAbs (w : Word)   -- 0D, R143
  | oraAbsx (w : Word)   -- 1D, R143
  | oraAbsy (w : Word)   -- 19, R143
  | oraIndx (d : Byte)   -- 01, R143
  | oraIndy (d : Byte)   -- 11, R143
  | eorImm (d : Byte)   -- 49, R144
  | eorZp (d : Byte)   -- 45, R144
  | eorZpx (d : Byte)   -- 55, R144
  | eorAbs (w : Word)   -- 4D, R144
  | eorAbsx (w : Word)   -- 5D, R144
  | eorAbsy (w : Word)   -- 59, R144
  | eorIndx (d : Byte)   -- 41, R144
  | eorIndy (d : Byte)   -- 51, R144
  | cmpImm (d : Byte)   -- C9, R145
  | cmpZp (d : Byte)   -- C5, R145
  | cmpZpx (d : Byte)   -- D5, R145
  | cmpAbs (w : Word)   -- CD, R145
  | cmpAbsx (w : Word)   -- DD, R145
  | cmpAbsy (w : Word)   -- D9, R145
  | cmpIndx (d : Byte)   -- C1, R145
  | cmpIndy (d : Byte)   -- D1, R145
  | cpxImm (d : Byte)   -- E0, R146
  | cpxZp (d : Byte)   -- E4, R146
  | cpxAbs (w : Word)   -- EC, R146
  | cpyImm (d : Byte)   -- C0, R147
  | cpyZp (d : Byte)   -- C4, R147
  | cpyAbs (w : Word)   -- CC, R147
  | bitZp (d : Byte)   -- 24, R148
  | bitAbs (w : Word)   -- 2C, R148
  -- Shifts, rotates, increments and decrements (43_shift_incdec.md)
  | aslAcc   -- 0A, R160
  | aslZp (d : Byte)   -- 06, R160
  | aslZpx (d : Byte)   -- 16, R160
  | aslAbs (w : Word)   -- 0E, R160
  | aslAbsx (w : Word)   -- 1E, R160
  | lsrAcc   -- 4A, R161
  | lsrZp (d : Byte)   -- 46, R161
  | lsrZpx (d : Byte)   -- 56, R161
  | lsrAbs (w : Word)   -- 4E, R161
  | lsrAbsx (w : Word)   -- 5E, R161
  | rolAcc   -- 2A, R162
  | rolZp (d : Byte)   -- 26, R162
  | rolZpx (d : Byte)   -- 36, R162
  | rolAbs (w : Word)   -- 2E, R162
  | rolAbsx (w : Word)   -- 3E, R162
  | rorAcc   -- 6A, R163
  | rorZp (d : Byte)   -- 66, R163
  | rorZpx (d : Byte)   -- 76, R163
  | rorAbs (w : Word)   -- 6E, R163
  | rorAbsx (w : Word)   -- 7E, R163
  | incZp (d : Byte)   -- E6, R164
  | incZpx (d : Byte)   -- F6, R164
  | incAbs (w : Word)   -- EE, R164
  | incAbsx (w : Word)   -- FE, R164
  | decZp (d : Byte)   -- C6, R165
  | decZpx (d : Byte)   -- D6, R165
  | decAbs (w : Word)   -- CE, R165
  | decAbsx (w : Word)   -- DE, R165
  | inx   -- E8, R166
  | iny   -- C8, R167
  | dex   -- CA, R168
  | dey   -- 88, R169
  -- Branches, jumps, call and return (44_control_transfer.md)
  | bcc (d : Byte)   -- 90, R181
  | bcs (d : Byte)   -- B0, R182
  | beq (d : Byte)   -- F0, R183
  | bne (d : Byte)   -- D0, R184
  | bpl (d : Byte)   -- 10, R185
  | bmi (d : Byte)   -- 30, R186
  | bvc (d : Byte)   -- 50, R187
  | bvs (d : Byte)   -- 70, R188
  | jmpAbs (w : Word)   -- 4C, R189
  | jmpInd (w : Word)   -- 6C, R189
  | jsr (w : Word)   -- 20, R190
  | rts   -- 60, R191
  -- Flag instructions, NOP, BRK and RTI (45_flags_system.md)
  | clc   -- 18, R200
  | sec   -- 38, R201
  | cli   -- 58, R202
  | sei   -- 78, R203
  | clv   -- B8, R204
  | cld   -- D8, R205
  | sed   -- F8, R206
  | nop   -- EA, R207
  | brk   -- 00, R208
  | rti   -- 40, R209
  -- Optional unofficial opcodes (48_unofficial.md)
  | aac0B (d : Byte)   -- 0B, R221
  | aac2B (d : Byte)   -- 2B, R221
  | aaxZp (d : Byte)   -- 87, R222
  | aaxZpy (d : Byte)   -- 97, R222
  | aaxAbs (w : Word)   -- 8F, R222
  | aaxIndx (d : Byte)   -- 83, R222
  | arr (d : Byte)   -- 6B, R223
  deriving DecidableEq, Repr

end Sys2Proof
end

