-- ==== Sys2Proof/WellFormed.lean ====
section
/-! DEFINITION. Which instructions a machine has: an optional instruction exists only when the parameter `UNOFFICIAL`
is true (30_encoding.md R79, R83, 48_unofficial.md R220). Every operand byte and word is legal for every form (R73). -/

namespace Sys2Proof

/-- The seven rows whose `option` is `"UNOFFICIAL"` (30_encoding.md R83). -/
def Instr.optional : Instr → Bool
  | .ldaImm _ => false
  | .ldaZp _ => false
  | .ldaZpx _ => false
  | .ldaAbs _ => false
  | .ldaAbsx _ => false
  | .ldaAbsy _ => false
  | .ldaIndx _ => false
  | .ldaIndy _ => false
  | .ldxImm _ => false
  | .ldxZp _ => false
  | .ldxZpy _ => false
  | .ldxAbs _ => false
  | .ldxAbsy _ => false
  | .ldyImm _ => false
  | .ldyZp _ => false
  | .ldyZpx _ => false
  | .ldyAbs _ => false
  | .ldyAbsx _ => false
  | .staZp _ => false
  | .staZpx _ => false
  | .staAbs _ => false
  | .staAbsx _ => false
  | .staAbsy _ => false
  | .staIndx _ => false
  | .staIndy _ => false
  | .stxZp _ => false
  | .stxZpy _ => false
  | .stxAbs _ => false
  | .styZp _ => false
  | .styZpx _ => false
  | .styAbs _ => false
  | .tax => false
  | .tay => false
  | .txa => false
  | .tya => false
  | .tsx => false
  | .txs => false
  | .pha => false
  | .php => false
  | .pla => false
  | .plp => false
  | .adcImm _ => false
  | .adcZp _ => false
  | .adcZpx _ => false
  | .adcAbs _ => false
  | .adcAbsx _ => false
  | .adcAbsy _ => false
  | .adcIndx _ => false
  | .adcIndy _ => false
  | .sbcImm _ => false
  | .sbcZp _ => false
  | .sbcZpx _ => false
  | .sbcAbs _ => false
  | .sbcAbsx _ => false
  | .sbcAbsy _ => false
  | .sbcIndx _ => false
  | .sbcIndy _ => false
  | .andImm _ => false
  | .andZp _ => false
  | .andZpx _ => false
  | .andAbs _ => false
  | .andAbsx _ => false
  | .andAbsy _ => false
  | .andIndx _ => false
  | .andIndy _ => false
  | .oraImm _ => false
  | .oraZp _ => false
  | .oraZpx _ => false
  | .oraAbs _ => false
  | .oraAbsx _ => false
  | .oraAbsy _ => false
  | .oraIndx _ => false
  | .oraIndy _ => false
  | .eorImm _ => false
  | .eorZp _ => false
  | .eorZpx _ => false
  | .eorAbs _ => false
  | .eorAbsx _ => false
  | .eorAbsy _ => false
  | .eorIndx _ => false
  | .eorIndy _ => false
  | .cmpImm _ => false
  | .cmpZp _ => false
  | .cmpZpx _ => false
  | .cmpAbs _ => false
  | .cmpAbsx _ => false
  | .cmpAbsy _ => false
  | .cmpIndx _ => false
  | .cmpIndy _ => false
  | .cpxImm _ => false
  | .cpxZp _ => false
  | .cpxAbs _ => false
  | .cpyImm _ => false
  | .cpyZp _ => false
  | .cpyAbs _ => false
  | .bitZp _ => false
  | .bitAbs _ => false
  | .aslAcc => false
  | .aslZp _ => false
  | .aslZpx _ => false
  | .aslAbs _ => false
  | .aslAbsx _ => false
  | .lsrAcc => false
  | .lsrZp _ => false
  | .lsrZpx _ => false
  | .lsrAbs _ => false
  | .lsrAbsx _ => false
  | .rolAcc => false
  | .rolZp _ => false
  | .rolZpx _ => false
  | .rolAbs _ => false
  | .rolAbsx _ => false
  | .rorAcc => false
  | .rorZp _ => false
  | .rorZpx _ => false
  | .rorAbs _ => false
  | .rorAbsx _ => false
  | .incZp _ => false
  | .incZpx _ => false
  | .incAbs _ => false
  | .incAbsx _ => false
  | .decZp _ => false
  | .decZpx _ => false
  | .decAbs _ => false
  | .decAbsx _ => false
  | .inx => false
  | .iny => false
  | .dex => false
  | .dey => false
  | .bcc _ => false
  | .bcs _ => false
  | .beq _ => false
  | .bne _ => false
  | .bpl _ => false
  | .bmi _ => false
  | .bvc _ => false
  | .bvs _ => false
  | .jmpAbs _ => false
  | .jmpInd _ => false
  | .jsr _ => false
  | .rts => false
  | .clc => false
  | .sec => false
  | .cli => false
  | .sei => false
  | .clv => false
  | .cld => false
  | .sed => false
  | .nop => false
  | .brk => false
  | .rti => false
  | .aac0B _ => true
  | .aac2B _ => true
  | .aaxZp _ => true
  | .aaxZpy _ => true
  | .aaxAbs _ => true
  | .aaxIndx _ => true
  | .arr _ => true

/-- `i` is an instruction of a machine whose parameter `UNOFFICIAL` is `unofficial`. -/
def Instr.wellFormed (unofficial : Bool) (i : Instr) : Bool := unofficial || !i.optional

end Sys2Proof
end

