-- ==== Sys2Proof/Decode.lean ====
section
/-! DEFINITION. Decoder and encoder (30_encoding.md R70, R71, R76, R78, R79, R83). The opcode byte alone selects the
row; a row gives the format and, from the operand bytes, the instruction. -/

namespace Sys2Proof

/-- The three formats (R71), each with the instruction its operand bytes make. -/
inductive RowForm where
  | f1 (i : Instr)
  | f2 (mk : Byte → Instr)
  | f3 (mk : Word → Instr)

/-- One row of the opcode table: its format, and whether it is present only when `UNOFFICIAL` is true (R83). -/
structure OpRow where
  form : RowForm
  optional : Bool

/-- A row that every machine has. -/
def official (f : RowForm) : Option OpRow := some { form := f, optional := false }

/-- A row of R79. -/
def unofficialRow (f : RowForm) : Option OpRow := some { form := f, optional := true }

/-- The opcode table as a direct index by the opcode byte (R70, R76, R79). A byte with no row is undefined (R78). -/
def opRow (op : Byte) : Option OpRow :=
  match op.toNat with
  | 0x00 => official (.f1 .brk)
  | 0x01 => official (.f2 .oraIndx)
  | 0x05 => official (.f2 .oraZp)
  | 0x06 => official (.f2 .aslZp)
  | 0x08 => official (.f1 .php)
  | 0x09 => official (.f2 .oraImm)
  | 0x0A => official (.f1 .aslAcc)
  | 0x0B => unofficialRow (.f2 .aac0B)
  | 0x0D => official (.f3 .oraAbs)
  | 0x0E => official (.f3 .aslAbs)
  | 0x10 => official (.f2 .bpl)
  | 0x11 => official (.f2 .oraIndy)
  | 0x15 => official (.f2 .oraZpx)
  | 0x16 => official (.f2 .aslZpx)
  | 0x18 => official (.f1 .clc)
  | 0x19 => official (.f3 .oraAbsy)
  | 0x1D => official (.f3 .oraAbsx)
  | 0x1E => official (.f3 .aslAbsx)
  | 0x20 => official (.f3 .jsr)
  | 0x21 => official (.f2 .andIndx)
  | 0x24 => official (.f2 .bitZp)
  | 0x25 => official (.f2 .andZp)
  | 0x26 => official (.f2 .rolZp)
  | 0x28 => official (.f1 .plp)
  | 0x29 => official (.f2 .andImm)
  | 0x2A => official (.f1 .rolAcc)
  | 0x2B => unofficialRow (.f2 .aac2B)
  | 0x2C => official (.f3 .bitAbs)
  | 0x2D => official (.f3 .andAbs)
  | 0x2E => official (.f3 .rolAbs)
  | 0x30 => official (.f2 .bmi)
  | 0x31 => official (.f2 .andIndy)
  | 0x35 => official (.f2 .andZpx)
  | 0x36 => official (.f2 .rolZpx)
  | 0x38 => official (.f1 .sec)
  | 0x39 => official (.f3 .andAbsy)
  | 0x3D => official (.f3 .andAbsx)
  | 0x3E => official (.f3 .rolAbsx)
  | 0x40 => official (.f1 .rti)
  | 0x41 => official (.f2 .eorIndx)
  | 0x45 => official (.f2 .eorZp)
  | 0x46 => official (.f2 .lsrZp)
  | 0x48 => official (.f1 .pha)
  | 0x49 => official (.f2 .eorImm)
  | 0x4A => official (.f1 .lsrAcc)
  | 0x4C => official (.f3 .jmpAbs)
  | 0x4D => official (.f3 .eorAbs)
  | 0x4E => official (.f3 .lsrAbs)
  | 0x50 => official (.f2 .bvc)
  | 0x51 => official (.f2 .eorIndy)
  | 0x55 => official (.f2 .eorZpx)
  | 0x56 => official (.f2 .lsrZpx)
  | 0x58 => official (.f1 .cli)
  | 0x59 => official (.f3 .eorAbsy)
  | 0x5D => official (.f3 .eorAbsx)
  | 0x5E => official (.f3 .lsrAbsx)
  | 0x60 => official (.f1 .rts)
  | 0x61 => official (.f2 .adcIndx)
  | 0x65 => official (.f2 .adcZp)
  | 0x66 => official (.f2 .rorZp)
  | 0x68 => official (.f1 .pla)
  | 0x69 => official (.f2 .adcImm)
  | 0x6A => official (.f1 .rorAcc)
  | 0x6B => unofficialRow (.f2 .arr)
  | 0x6C => official (.f3 .jmpInd)
  | 0x6D => official (.f3 .adcAbs)
  | 0x6E => official (.f3 .rorAbs)
  | 0x70 => official (.f2 .bvs)
  | 0x71 => official (.f2 .adcIndy)
  | 0x75 => official (.f2 .adcZpx)
  | 0x76 => official (.f2 .rorZpx)
  | 0x78 => official (.f1 .sei)
  | 0x79 => official (.f3 .adcAbsy)
  | 0x7D => official (.f3 .adcAbsx)
  | 0x7E => official (.f3 .rorAbsx)
  | 0x81 => official (.f2 .staIndx)
  | 0x83 => unofficialRow (.f2 .aaxIndx)
  | 0x84 => official (.f2 .styZp)
  | 0x85 => official (.f2 .staZp)
  | 0x86 => official (.f2 .stxZp)
  | 0x87 => unofficialRow (.f2 .aaxZp)
  | 0x88 => official (.f1 .dey)
  | 0x8A => official (.f1 .txa)
  | 0x8C => official (.f3 .styAbs)
  | 0x8D => official (.f3 .staAbs)
  | 0x8E => official (.f3 .stxAbs)
  | 0x8F => unofficialRow (.f3 .aaxAbs)
  | 0x90 => official (.f2 .bcc)
  | 0x91 => official (.f2 .staIndy)
  | 0x94 => official (.f2 .styZpx)
  | 0x95 => official (.f2 .staZpx)
  | 0x96 => official (.f2 .stxZpy)
  | 0x97 => unofficialRow (.f2 .aaxZpy)
  | 0x98 => official (.f1 .tya)
  | 0x99 => official (.f3 .staAbsy)
  | 0x9A => official (.f1 .txs)
  | 0x9D => official (.f3 .staAbsx)
  | 0xA0 => official (.f2 .ldyImm)
  | 0xA1 => official (.f2 .ldaIndx)
  | 0xA2 => official (.f2 .ldxImm)
  | 0xA4 => official (.f2 .ldyZp)
  | 0xA5 => official (.f2 .ldaZp)
  | 0xA6 => official (.f2 .ldxZp)
  | 0xA8 => official (.f1 .tay)
  | 0xA9 => official (.f2 .ldaImm)
  | 0xAA => official (.f1 .tax)
  | 0xAC => official (.f3 .ldyAbs)
  | 0xAD => official (.f3 .ldaAbs)
  | 0xAE => official (.f3 .ldxAbs)
  | 0xB0 => official (.f2 .bcs)
  | 0xB1 => official (.f2 .ldaIndy)
  | 0xB4 => official (.f2 .ldyZpx)
  | 0xB5 => official (.f2 .ldaZpx)
  | 0xB6 => official (.f2 .ldxZpy)
  | 0xB8 => official (.f1 .clv)
  | 0xB9 => official (.f3 .ldaAbsy)
  | 0xBA => official (.f1 .tsx)
  | 0xBC => official (.f3 .ldyAbsx)
  | 0xBD => official (.f3 .ldaAbsx)
  | 0xBE => official (.f3 .ldxAbsy)
  | 0xC0 => official (.f2 .cpyImm)
  | 0xC1 => official (.f2 .cmpIndx)
  | 0xC4 => official (.f2 .cpyZp)
  | 0xC5 => official (.f2 .cmpZp)
  | 0xC6 => official (.f2 .decZp)
  | 0xC8 => official (.f1 .iny)
  | 0xC9 => official (.f2 .cmpImm)
  | 0xCA => official (.f1 .dex)
  | 0xCC => official (.f3 .cpyAbs)
  | 0xCD => official (.f3 .cmpAbs)
  | 0xCE => official (.f3 .decAbs)
  | 0xD0 => official (.f2 .bne)
  | 0xD1 => official (.f2 .cmpIndy)
  | 0xD5 => official (.f2 .cmpZpx)
  | 0xD6 => official (.f2 .decZpx)
  | 0xD8 => official (.f1 .cld)
  | 0xD9 => official (.f3 .cmpAbsy)
  | 0xDD => official (.f3 .cmpAbsx)
  | 0xDE => official (.f3 .decAbsx)
  | 0xE0 => official (.f2 .cpxImm)
  | 0xE1 => official (.f2 .sbcIndx)
  | 0xE4 => official (.f2 .cpxZp)
  | 0xE5 => official (.f2 .sbcZp)
  | 0xE6 => official (.f2 .incZp)
  | 0xE8 => official (.f1 .inx)
  | 0xE9 => official (.f2 .sbcImm)
  | 0xEA => official (.f1 .nop)
  | 0xEC => official (.f3 .cpxAbs)
  | 0xED => official (.f3 .sbcAbs)
  | 0xEE => official (.f3 .incAbs)
  | 0xF0 => official (.f2 .beq)
  | 0xF1 => official (.f2 .sbcIndy)
  | 0xF5 => official (.f2 .sbcZpx)
  | 0xF6 => official (.f2 .incZpx)
  | 0xF8 => official (.f1 .sed)
  | 0xF9 => official (.f3 .sbcAbsy)
  | 0xFD => official (.f3 .sbcAbsx)
  | 0xFE => official (.f3 .incAbsx)
  | _ => none

/-- Why bytes are no instruction: the opcode byte has no enabled row (R78, 60_exceptions.md R261), or the list ends
before the instruction does. -/
inductive Reject where
  | unknownOpcode (op : Byte)
  | endOfBytes
  deriving DecidableEq, Repr

/-- The first instruction of a list of bytes and the bytes after it. `unofficial` is the parameter `UNOFFICIAL`; a row
whose option is not enabled is absent (R83). -/
def decode (unofficial : Bool) (bytes : List Byte) : Except Reject (Instr × List Byte) :=
  match bytes with
  | [] => .error .endOfBytes
  | op :: rest =>
    match opRow op with
    | none => .error (.unknownOpcode op)
    | some row =>
      if row.optional && !unofficial then .error (.unknownOpcode op)
      else
        match row.form, rest with
        | .f1 i, rest => .ok (i, rest)
        | .f2 mk, d :: rest => .ok (mk d, rest)
        | .f3 mk, lo :: hi :: rest => .ok (mk (word hi lo), rest)
        | _, _ => .error .endOfBytes

/-- The bytes of an instruction, lowest address first (R71, R76, R79; the low byte of a 16-bit operand first, R73 d). -/
def encode : Instr → List Byte
  | .ldaImm d => [0xA9#8, d]
  | .ldaZp d => [0xA5#8, d]
  | .ldaZpx d => [0xB5#8, d]
  | .ldaAbs w => [0xAD#8, loByte w, hiByte w]
  | .ldaAbsx w => [0xBD#8, loByte w, hiByte w]
  | .ldaAbsy w => [0xB9#8, loByte w, hiByte w]
  | .ldaIndx d => [0xA1#8, d]
  | .ldaIndy d => [0xB1#8, d]
  | .ldxImm d => [0xA2#8, d]
  | .ldxZp d => [0xA6#8, d]
  | .ldxZpy d => [0xB6#8, d]
  | .ldxAbs w => [0xAE#8, loByte w, hiByte w]
  | .ldxAbsy w => [0xBE#8, loByte w, hiByte w]
  | .ldyImm d => [0xA0#8, d]
  | .ldyZp d => [0xA4#8, d]
  | .ldyZpx d => [0xB4#8, d]
  | .ldyAbs w => [0xAC#8, loByte w, hiByte w]
  | .ldyAbsx w => [0xBC#8, loByte w, hiByte w]
  | .staZp d => [0x85#8, d]
  | .staZpx d => [0x95#8, d]
  | .staAbs w => [0x8D#8, loByte w, hiByte w]
  | .staAbsx w => [0x9D#8, loByte w, hiByte w]
  | .staAbsy w => [0x99#8, loByte w, hiByte w]
  | .staIndx d => [0x81#8, d]
  | .staIndy d => [0x91#8, d]
  | .stxZp d => [0x86#8, d]
  | .stxZpy d => [0x96#8, d]
  | .stxAbs w => [0x8E#8, loByte w, hiByte w]
  | .styZp d => [0x84#8, d]
  | .styZpx d => [0x94#8, d]
  | .styAbs w => [0x8C#8, loByte w, hiByte w]
  | .tax => [0xAA#8]
  | .tay => [0xA8#8]
  | .txa => [0x8A#8]
  | .tya => [0x98#8]
  | .tsx => [0xBA#8]
  | .txs => [0x9A#8]
  | .pha => [0x48#8]
  | .php => [0x08#8]
  | .pla => [0x68#8]
  | .plp => [0x28#8]
  | .adcImm d => [0x69#8, d]
  | .adcZp d => [0x65#8, d]
  | .adcZpx d => [0x75#8, d]
  | .adcAbs w => [0x6D#8, loByte w, hiByte w]
  | .adcAbsx w => [0x7D#8, loByte w, hiByte w]
  | .adcAbsy w => [0x79#8, loByte w, hiByte w]
  | .adcIndx d => [0x61#8, d]
  | .adcIndy d => [0x71#8, d]
  | .sbcImm d => [0xE9#8, d]
  | .sbcZp d => [0xE5#8, d]
  | .sbcZpx d => [0xF5#8, d]
  | .sbcAbs w => [0xED#8, loByte w, hiByte w]
  | .sbcAbsx w => [0xFD#8, loByte w, hiByte w]
  | .sbcAbsy w => [0xF9#8, loByte w, hiByte w]
  | .sbcIndx d => [0xE1#8, d]
  | .sbcIndy d => [0xF1#8, d]
  | .andImm d => [0x29#8, d]
  | .andZp d => [0x25#8, d]
  | .andZpx d => [0x35#8, d]
  | .andAbs w => [0x2D#8, loByte w, hiByte w]
  | .andAbsx w => [0x3D#8, loByte w, hiByte w]
  | .andAbsy w => [0x39#8, loByte w, hiByte w]
  | .andIndx d => [0x21#8, d]
  | .andIndy d => [0x31#8, d]
  | .oraImm d => [0x09#8, d]
  | .oraZp d => [0x05#8, d]
  | .oraZpx d => [0x15#8, d]
  | .oraAbs w => [0x0D#8, loByte w, hiByte w]
  | .oraAbsx w => [0x1D#8, loByte w, hiByte w]
  | .oraAbsy w => [0x19#8, loByte w, hiByte w]
  | .oraIndx d => [0x01#8, d]
  | .oraIndy d => [0x11#8, d]
  | .eorImm d => [0x49#8, d]
  | .eorZp d => [0x45#8, d]
  | .eorZpx d => [0x55#8, d]
  | .eorAbs w => [0x4D#8, loByte w, hiByte w]
  | .eorAbsx w => [0x5D#8, loByte w, hiByte w]
  | .eorAbsy w => [0x59#8, loByte w, hiByte w]
  | .eorIndx d => [0x41#8, d]
  | .eorIndy d => [0x51#8, d]
  | .cmpImm d => [0xC9#8, d]
  | .cmpZp d => [0xC5#8, d]
  | .cmpZpx d => [0xD5#8, d]
  | .cmpAbs w => [0xCD#8, loByte w, hiByte w]
  | .cmpAbsx w => [0xDD#8, loByte w, hiByte w]
  | .cmpAbsy w => [0xD9#8, loByte w, hiByte w]
  | .cmpIndx d => [0xC1#8, d]
  | .cmpIndy d => [0xD1#8, d]
  | .cpxImm d => [0xE0#8, d]
  | .cpxZp d => [0xE4#8, d]
  | .cpxAbs w => [0xEC#8, loByte w, hiByte w]
  | .cpyImm d => [0xC0#8, d]
  | .cpyZp d => [0xC4#8, d]
  | .cpyAbs w => [0xCC#8, loByte w, hiByte w]
  | .bitZp d => [0x24#8, d]
  | .bitAbs w => [0x2C#8, loByte w, hiByte w]
  | .aslAcc => [0x0A#8]
  | .aslZp d => [0x06#8, d]
  | .aslZpx d => [0x16#8, d]
  | .aslAbs w => [0x0E#8, loByte w, hiByte w]
  | .aslAbsx w => [0x1E#8, loByte w, hiByte w]
  | .lsrAcc => [0x4A#8]
  | .lsrZp d => [0x46#8, d]
  | .lsrZpx d => [0x56#8, d]
  | .lsrAbs w => [0x4E#8, loByte w, hiByte w]
  | .lsrAbsx w => [0x5E#8, loByte w, hiByte w]
  | .rolAcc => [0x2A#8]
  | .rolZp d => [0x26#8, d]
  | .rolZpx d => [0x36#8, d]
  | .rolAbs w => [0x2E#8, loByte w, hiByte w]
  | .rolAbsx w => [0x3E#8, loByte w, hiByte w]
  | .rorAcc => [0x6A#8]
  | .rorZp d => [0x66#8, d]
  | .rorZpx d => [0x76#8, d]
  | .rorAbs w => [0x6E#8, loByte w, hiByte w]
  | .rorAbsx w => [0x7E#8, loByte w, hiByte w]
  | .incZp d => [0xE6#8, d]
  | .incZpx d => [0xF6#8, d]
  | .incAbs w => [0xEE#8, loByte w, hiByte w]
  | .incAbsx w => [0xFE#8, loByte w, hiByte w]
  | .decZp d => [0xC6#8, d]
  | .decZpx d => [0xD6#8, d]
  | .decAbs w => [0xCE#8, loByte w, hiByte w]
  | .decAbsx w => [0xDE#8, loByte w, hiByte w]
  | .inx => [0xE8#8]
  | .iny => [0xC8#8]
  | .dex => [0xCA#8]
  | .dey => [0x88#8]
  | .bcc d => [0x90#8, d]
  | .bcs d => [0xB0#8, d]
  | .beq d => [0xF0#8, d]
  | .bne d => [0xD0#8, d]
  | .bpl d => [0x10#8, d]
  | .bmi d => [0x30#8, d]
  | .bvc d => [0x50#8, d]
  | .bvs d => [0x70#8, d]
  | .jmpAbs w => [0x4C#8, loByte w, hiByte w]
  | .jmpInd w => [0x6C#8, loByte w, hiByte w]
  | .jsr w => [0x20#8, loByte w, hiByte w]
  | .rts => [0x60#8]
  | .clc => [0x18#8]
  | .sec => [0x38#8]
  | .cli => [0x58#8]
  | .sei => [0x78#8]
  | .clv => [0xB8#8]
  | .cld => [0xD8#8]
  | .sed => [0xF8#8]
  | .nop => [0xEA#8]
  | .brk => [0x00#8]
  | .rti => [0x40#8]
  | .aac0B d => [0x0B#8, d]
  | .aac2B d => [0x2B#8, d]
  | .aaxZp d => [0x87#8, d]
  | .aaxZpy d => [0x97#8, d]
  | .aaxAbs w => [0x8F#8, loByte w, hiByte w]
  | .aaxIndx d => [0x83#8, d]
  | .arr d => [0x6B#8, d]

/-- The length `L` of an instruction in bytes (R71). -/
def Instr.length (i : Instr) : Nat := (encode i).length

/-- Byte `k` of a number, byte 0 least significant: the first byte of an instruction is bits 7 to 0 of its number. -/
def byteOf (w k : Nat) : Byte := BitVec.ofNat 8 (w / 256 ^ k)

/-- The three bytes an instruction can take, from its bits numbered as spec/opcode_table.json numbers them; bits above
`nbits` are 0. -/
def tableBytes (nbits w : Nat) : List Byte :=
  [byteOf (w % 2 ^ nbits) 0, byteOf (w % 2 ^ nbits) 1, byteOf (w % 2 ^ nbits) 2]

/-- The instruction the decoder reads from a word of the opcode table, every row of the table enabled (log 3). -/
def decodeTableWord (nbits w : Nat) : Option Instr :=
  match decode true (tableBytes nbits w) with
  | .ok (i, _) => some i
  | .error _ => none

end Sys2Proof
end

