-- ==== Sys2Proof/Config.lean ====
section
/-! DEFINITION. The named parameters of 00_scope.md R6 that a machine fixes for a run (10_state.md R33), and the
values the spec takes. They are plain data, held in `State.cfg` (log 2). No value of this block is left free. -/

namespace Sys2Proof

/-- How CMP, CPX and CPY compute N (42_arithmetic_logic_compare.md R150, 90_conflicts.md C6). -/
inductive CmpNRule where
  | signed16   -- the source's formula, the default
  | bit7       -- bit 7 of the 8-bit difference
  deriving DecidableEq, Repr

/-- The parameters. -/
structure Config where
  /-- `UNOFFICIAL`: whether the optional opcodes decode (48_unofficial.md R220). -/
  unofficial : Bool
  /-- `CMP_N_RULE`. -/
  cmpNRule : CmpNRule
  /-- `PPU_PER_CPU`: Timing Unit ticks per Scheduler tick. -/
  ppuPerCpu : Nat
  /-- `VBL_DOT`: the dot at which lines 241 and 261 act. -/
  vblDot : Fin 341
  /-- `RESET_COST`. -/
  resetCost : Nat
  /-- `INT_COST`: cost of BRK, IRQ entry and NMI entry. -/
  intCost : Nat
  /-- `APU_ZERO_SET`: the addresses CPU reset zeroes. -/
  apuZeroSet : List Word
  /-- `P_RESET`: the flags after CPU reset. -/
  pReset : Flags
  deriving DecidableEq, Repr

/-- The 22 addresses of 70_reset_and_hazards.md R291. -/
def Config.apuAddresses : List Word :=
  [0x4000#16, 0x4001#16, 0x4002#16, 0x4003#16, 0x4004#16, 0x4005#16, 0x4006#16, 0x4007#16,
   0x4008#16, 0x4009#16, 0x400A#16, 0x400B#16, 0x400C#16, 0x400D#16, 0x400E#16, 0x400F#16] ++
  [0x4010#16, 0x4011#16, 0x4012#16, 0x4013#16, 0x4015#16, 0x4017#16]

/-- The values of the table of R6. -/
def Config.default : Config where
  unofficial := false
  cmpNRule := .signed16
  ppuPerCpu := 3
  vblDot := 0
  resetCost := 8
  intCost := 7
  apuZeroSet := Config.apuAddresses
  pReset := { n := false, v := false, d := false, i := true, z := false, c := false }

end Sys2Proof
end

