-- ==== Sys2Proof/Machine/Flags.lean ====
section
/-! DEFINITION. Every flag computation: the status byte (10_state.md R20), `SetZN` (R21), and the ALU of
42_arithmetic_logic_compare.md and 43_shift_incdec.md. A function that computes a result answers it with the flags. -/

namespace Sys2Proof.Machine

/-- `PByte(b)` (10_state.md R20): N V 1 b D I Z C, bit 7 first. -/
def pByte (p : Flags) (b : Bool) : Byte :=
  BitVec.ofBool p.n ++ BitVec.ofBool p.v ++ 1#1 ++ BitVec.ofBool b ++ BitVec.ofBool p.d ++ BitVec.ofBool p.i ++
    BitVec.ofBool p.z ++ BitVec.ofBool p.c

/-- `SetP(v)` (10_state.md R20): bits 5 and 4 are ignored. -/
def flagsOfByte (v : Byte) : Flags where
  n := v.getLsbD 7
  v := v.getLsbD 6
  d := v.getLsbD 3
  i := v.getLsbD 2
  z := v.getLsbD 1
  c := v.getLsbD 0

/-- `SetZN(v)` (10_state.md R21). -/
def setZN (v : Byte) (p : Flags) : Flags := { p with z := decide (v = 0x00#8), n := bit7 v }

/-- `Adc(M)` (42_arithmetic_logic_compare.md R140): `total` is kept in nine bits, 0 to 0x1FF. -/
def adc (a m : Byte) (p : Flags) : Byte × Flags :=
  let total : BitVec 9 := a.setWidth 9 + m.setWidth 9 + (BitVec.ofBool p.c).setWidth 9
  let r : Byte := total.setWidth 8
  (r, { p with
    c := decide (total > 0xFF#9)
    z := decide (r = 0x00#8)
    v := decide ((a ^^^ r) &&& (m ^^^ r) &&& 0x80#8 ≠ 0x00#8)
    n := decide (r &&& 0x80#8 ≠ 0x00#8) })

/-- SBC is `Adc(M ^ 0xFF)` (R141). -/
def sbc (a m : Byte) (p : Flags) : Byte × Flags := adc a (m ^^^ 0xFF#8) p

/-- `Compare(reg, M)` (R150). -/
def compareFlags (rule : CmpNRule) (reg m : Byte) (p : Flags) : Flags :=
  let r : Int := (reg.toNat : Int) - (m.toNat : Int)
  { p with
    c := decide (0 ≤ r)
    z := decide (r = 0)
    n := match rule with
      | .signed16 => decide (r < 0)
      | .bit7 => bit7 (reg - m) }

/-- BIT (R148). -/
def bitTest (a m : Byte) (p : Flags) : Flags :=
  { p with z := decide (a &&& m = 0x00#8), n := m.getLsbD 7, v := m.getLsbD 6 }

/-- ASL (43_shift_incdec.md R160). -/
def asl (v : Byte) (p : Flags) : Byte × Flags :=
  let res := v <<< 1
  (res, setZN res { p with c := v.getLsbD 7 })

/-- LSR (R161). -/
def lsr (v : Byte) (p : Flags) : Byte × Flags :=
  let res := v >>> 1
  (res, setZN res { p with c := v.getLsbD 0 })

/-- ROL (R162): the old carry enters bit 0. -/
def rol (v : Byte) (p : Flags) : Byte × Flags :=
  let res := (v <<< 1) ||| (BitVec.ofBool p.c).setWidth 8
  (res, setZN res { p with c := v.getLsbD 7 })

/-- ROR (R163): the old carry enters bit 7. -/
def ror (v : Byte) (p : Flags) : Byte × Flags :=
  let res := (v >>> 1) ||| ((BitVec.ofBool p.c).setWidth 8 <<< 7)
  (res, setZN res { p with c := v.getLsbD 0 })

/-- INC (R164): wraps, no carry, no overflow flag. -/
def inc (v : Byte) (p : Flags) : Byte × Flags := (v + 0x01#8, setZN (v + 0x01#8) p)

/-- DEC (R165). -/
def dec (v : Byte) (p : Flags) : Byte × Flags := (v - 0x01#8, setZN (v - 0x01#8) p)

/-- AAC (48_unofficial.md R221): AND, then bit 7 of the result into carry. -/
def aac (a m : Byte) (p : Flags) : Byte × Flags :=
  let r := a &&& m
  (r, { setZN r p with c := bit7 r })

/-- ARR (48_unofficial.md R223): AND, rotate right through carry, then C and V from bits 6 and 5 of the result. -/
def arr (a m : Byte) (p : Flags) : Byte × Flags :=
  let t := a &&& m
  let res := (t >>> 1) ||| ((BitVec.ofBool p.c).setWidth 8 <<< 7)
  (res, { setZN res p with c := res.getLsbD 6, v := res.getLsbD 6 != res.getLsbD 5 })

end Sys2Proof.Machine
end

