-- ==== Sys2Proof/Machine/State.lean ====
section
/-! DEFINITION. All state of the block (10_state.md), the host's calls still to come, the reasons a step can stop, and
the state after reset (10_state.md R34). -/

namespace Sys2Proof.Machine

/-- A byte array as plain data: (index, byte) pairs in one canonical form, indexes strictly rising and no entry equal to
what an unlisted index reads as. `mem` (10_state.md R28) and `vram` (R32) are held so. -/
abbrev Memory := List Host.Cell

/-- What an unlisted cell reads as. DESIGN CHOICE, unsafe (log 4): the spec makes the contents before reset the
arguments `mem0` and `vram0` (70_reset_and_hazards.md R292); a `mem0` with other bytes is a list that names them. -/
def Memory.unlisted : Byte := 0x00#8

/-- The canonical form. -/
abbrev Memory.wf (m : Memory) : Prop :=
  m.Pairwise (fun p q => p.1 < q.1) ∧ ∀ p ∈ m, p.2 ≠ Memory.unlisted

/-- Every index lies inside an array of `size` cells. -/
abbrev Memory.within (size : Nat) (m : Memory) : Prop := ∀ p ∈ m, p.1 < size

/-- The Timing Unit (10_state.md R29 to R32). `cycle` and `scanline` cannot hold a value in no phase
(50_timing_unit.md R231): 341 dots, 262 lines. -/
structure TimingUnit where
  /-- dot counter, 0 to 340 -/
  cycle : Fin 341
  /-- line counter, 0 to 261 -/
  scanline : Fin 262
  /-- frame parity -/
  odd : Bool
  /-- control register: bit 7 `nmi_enable`, bit 2 `inc32` (R30) -/
  ctrl : Byte
  /-- mask register, stored only (R30) -/
  mask : Byte
  /-- status register: bit 7 vblank (R30) -/
  status : Byte
  /-- address latch: true when the next write to `0x2006` is the low byte (R31) -/
  w : Bool
  /-- video memory pointer (R31) -/
  ptr : VAddr
  /-- read buffer of `0x2007` (R31) -/
  buf : Byte
  /-- video memory (R32) -/
  vram : Memory
  deriving DecidableEq, Repr

/-- The record of the unknown-opcode fault (10_state.md R25): the opcode byte and the address it was fetched from. -/
structure UnknownOpcode where
  op : Byte
  pc : Word
  deriving DecidableEq, Repr

/-- The calls the host can make on the block once it is booted, each one step (log 1). It loads no memory then: both
arrays are its own before reset only (20_memory.md R62), in `boot`. -/
inductive HostCall where
  /-- `SystemTick(irq)`, 70_reset_and_hazards.md R298; `irq` is the level of `irq_line` at this tick (10_state.md R27) -/
  | tick (irq : Bool)
  /-- `CpuReset()`, R290 -/
  | cpuReset
  /-- `PpuReset()`, R293 -/
  | ppuReset
  deriving DecidableEq, Repr

/-- The state of the block. -/
structure State where
  /-- accumulator (R10) -/
  a : Byte
  /-- index register X (R10) -/
  x : Byte
  /-- index register Y (R10) -/
  y : Byte
  /-- stack pointer (R11) -/
  sp : Byte
  /-- program counter (R14) -/
  pc : Word
  /-- the six stored flags (R17, R20) -/
  p : Flags
  /-- wait counter of the Scheduler (R24) -/
  wait : Nat
  /-- `none`, or the record of the fault that halted the block (R25) -/
  halted : Option UnknownOpcode
  /-- the latch from the Timing Unit to the Scheduler (R26) -/
  nmiPending : Bool
  /-- the address-space array, indexed by mapped addresses (R28) -/
  mem : Memory
  /-- the Timing Unit -/
  ppu : TimingUnit
  /-- the host's calls still to come, oldest first; the empty list stands for system ticks with `irq_line` false
  (the model's own field, log 1) -/
  host : List HostCall
  /-- the parameters of the run (00_scope.md R6); no step changes them (the model's own field, log 2) -/
  cfg : Config
  deriving DecidableEq, Repr

/-- Reasons a step can end in a fault: none. The block's one fault, the unknown opcode, is a state the spec defines
whole (60_exceptions.md R261, R262: `halted` set, `PC` at `a0 + 1`, nothing steps until a reset), so the model answers
that state as the next one (log 6, safe). No meaning and no step raises a host fault. -/
inductive Fault where
  deriving DecidableEq, Repr

/-- Reasons a step can be refused. -/
inductive Refusal where
  /-- raised by no arm of `exec`: every instruction has its meaning; safe -/
  | notModelled (mnemonic : String)
  /-- raised by no step, only by `boot`, for an image that 70_reset_and_hazards.md R296 does not describe
  (93_implementation_defined.md U22: boot is defined only for well-formed images); safe (log 9) -/
  | malformedImage
  deriving DecidableEq, Repr

/-- The Timing Unit after its reset (10_state.md R34, 70_reset_and_hazards.md R293). -/
def TimingUnit.reset : TimingUnit where
  cycle := 0
  scanline := 0
  odd := false
  ctrl := 0x00#8
  mask := 0x00#8
  status := 0x00#8
  w := false
  ptr := 0x0000#14
  buf := 0x00#8
  vram := []

/-- The state after the boot sequence with nothing loaded (R34): `PC` is the word at the reset vector, which reads
0x0000 when memory lists nothing (log 5). -/
def State.reset : State where
  a := 0x00#8
  x := 0x00#8
  y := 0x00#8
  sp := 0xFD#8
  pc := 0x0000#16
  p := { n := false, v := false, d := false, i := true, z := false, c := false }
  wait := 8
  halted := none
  nmiPending := false
  mem := []
  ppu := TimingUnit.reset
  host := []
  cfg := Config.default

end Sys2Proof.Machine
end

