-- ==== Sys2Proof/Machine/Memory.lean ====
section
/-! DEFINITION. Reading and writing one cell of a canonical memory, and the mirroring function of the CPU's address
space (20_memory.md R41). -/

namespace Sys2Proof.Machine

/-- The byte in cell `a`. -/
def Memory.read (m : Memory) (a : Nat) : Byte :=
  match m with
  | [] => Memory.unlisted
  | c :: rest => if c.1 = a then c.2 else Memory.read rest a

/-- Store `v` in cell `a`, keeping the canonical form: storing what an unlisted cell reads as removes the entry. -/
def Memory.write (m : Memory) (a : Nat) (v : Byte) : Memory :=
  match m with
  | [] => if v = Memory.unlisted then [] else [(a, v)]
  | c :: rest =>
    if a < c.1 then
      if v = Memory.unlisted then c :: rest else (a, v) :: c :: rest
    else if a = c.1 then
      if v = Memory.unlisted then rest else (a, v) :: rest
    else c :: Memory.write rest a v

/-- `map(a)` (20_memory.md R41). -/
def mirror (a : Word) : Word :=
  if 0x07FF#16 < a ∧ a < 0x2000#16 then a &&& 0x07FF#16
  else if 0x2007#16 < a ∧ a < 0x4000#16 then 0x2000#16 + (a &&& 0x0007#16)
  else a

end Sys2Proof.Machine
end

