-- ==== Sys2Proof/Machine/TimingUnit.lean ====
section
/-! DEFINITION. The PPU Timing Unit: its counters, the vblank events and the NMI signal, and what a CPU access to the
register window does to it (50_timing_unit.md). -/

namespace Sys2Proof.Machine

/-- `VBL_LINE` (00_scope.md R6): the line whose first tick sets the vblank flag. -/
def vblLine : Fin 262 := 241

/-- `PRE_LINE` (00_scope.md R6): the pre-render line, which clears the flag. -/
def preLine : Fin 262 := 261

/-- `AdvanceCounters()` (R233); every frame has the same length (R234). -/
def advanceCounters (u : TimingUnit) : TimingUnit :=
  if h : u.cycle.val + 1 < 341 then { u with cycle := ⟨u.cycle.val + 1, h⟩ }
  else if h' : u.scanline.val + 1 < 262 then { u with cycle := 0, scanline := ⟨u.scanline.val + 1, h'⟩ }
  else { u with cycle := 0, scanline := 0, odd := !u.odd }

/-- `VblankSet()` (R236), with the NMI signal of R237. -/
def vblankSet (s : State) : State :=
  { s with
    ppu := { s.ppu with status := s.ppu.status ||| 0x80#8 }
    nmiPending := s.nmiPending || s.ppu.ctrl.getLsbD 7 }

/-- `VblankClear()` (R238). -/
def vblankClear (s : State) : State :=
  { s with ppu := { s.ppu with status := s.ppu.status &&& 0x1F#8 } }

/-- The vblank event, if any, of the dot the next tick processes (R231, R232). -/
def vblankEvent (s : State) : State :=
  if s.ppu.cycle = s.cfg.vblDot then
    if s.ppu.scanline = vblLine then vblankSet s
    else if s.ppu.scanline = preLine then vblankClear s
    else s
  else s

/-- `PpuTick()` (R232): the phase action first, then the counters. -/
def ppuTick (s : State) : State :=
  let t := vblankEvent s
  { t with ppu := advanceCounters t.ppu }

/-- `n` ticks of the Timing Unit. -/
def ppuTicks (n : Nat) (s : State) : State :=
  match n with
  | 0 => s
  | k + 1 => ppuTicks k (ppuTick s)

/-- `Inc()` (R243). -/
def ptrInc (u : TimingUnit) : VAddr := if u.ctrl.getLsbD 2 then 32#14 else 1#14

/-- `PpuStatusRead()` (R246). -/
def statusRead (u : TimingUnit) : Byte × TimingUnit :=
  (u.status, { u with status := u.status &&& 0x7F#8, w := false })

/-- `PpuDataRead()` (R247): immediate at and above `0x3F00`, delayed by one read below. -/
def dataRead (u : TimingUnit) : Byte × TimingUnit :=
  if 0x3F00#14 ≤ u.ptr then
    (u.vram.read u.ptr.toNat,
      { u with buf := u.vram.read (u.ptr &&& 0x2FFF#14).toNat, ptr := u.ptr + ptrInc u })
  else
    (u.buf, { u with buf := u.vram.read u.ptr.toNat, ptr := u.ptr + ptrInc u })

/-- `PpuAddrWrite(v)` (R241). -/
def addrWrite (v : Byte) (u : TimingUnit) : TimingUnit :=
  if u.w then { u with ptr := (u.ptr &&& 0x3F00#14) ||| v.setWidth 14, w := false }
  else { u with ptr := ((v &&& 0x3F#8).setWidth 14 <<< 8) ||| (u.ptr &&& 0x00FF#14), w := true }

/-- `PpuDataWrite(v)` (R242). -/
def dataWrite (v : Byte) (u : TimingUnit) : TimingUnit :=
  { u with vram := u.vram.write u.ptr.toNat v, ptr := u.ptr + ptrInc u }

/-- What a data read of mapped address `m` answers and does to the Timing Unit, if `m` is intercepted
(20_memory.md R46); `none` where the read falls through to `mem` (R245). -/
def windowRead (m : Word) (u : TimingUnit) : Option (Byte × TimingUnit) :=
  if m = 0x2002#16 then some (statusRead u)
  else if m = 0x2007#16 then some (dataRead u)
  else none

/-- What a data write of `v` to mapped address `m` does to the Timing Unit (20_memory.md R47, R239 to R244). -/
def windowWrite (m : Word) (v : Byte) (u : TimingUnit) : TimingUnit :=
  if m = 0x2000#16 then { u with ctrl := v }
  else if m = 0x2001#16 then { u with mask := v }
  else if m = 0x2006#16 then addrWrite v u
  else if m = 0x2007#16 then dataWrite v u
  else u

end Sys2Proof.Machine
end

