-- ==== Sys2Proof/Machine/Ops.lean ====
section
/-! DEFINITION. The operations every meaning is made of: writing one field, the three access paths of 20_memory.md,
the stack of 40_addressing_and_stack.md, entry to and return from an exception (60_exceptions.md), and the end of an
instruction (38_fetch_execute.md R95, R96). -/

namespace Sys2Proof.Machine

/-! ## Writing one field -/

/-- `A <- v`. -/
def State.setA (s : State) (v : Byte) : State := { s with a := v }
/-- `X <- v`. -/
def State.setX (s : State) (v : Byte) : State := { s with x := v }
/-- `Y <- v`. -/
def State.setY (s : State) (v : Byte) : State := { s with y := v }
/-- `SP <- v`. -/
def State.setSp (s : State) (v : Byte) : State := { s with sp := v }
/-- `PC <- w`; a `Word` is already reduced mod 0x10000 (10_state.md R16). -/
def State.setPc (s : State) (w : Word) : State := { s with pc := w }
/-- Write the six flags. -/
def State.setP (s : State) (p : Flags) : State := { s with p := p }
/-- `wait <- n`. -/
def State.setWait (s : State) (n : Nat) : State := { s with wait := n }
/-- Replace the address-space array. -/
def State.setMem (s : State) (m : Memory) : State := { s with mem := m }
/-- Replace the Timing Unit. -/
def State.setPpu (s : State) (u : TimingUnit) : State := { s with ppu := u }
/-- `nmi_pending <- b`. -/
def State.setNmi (s : State) (b : Bool) : State := { s with nmiPending := b }
/-- `halted <- h`. -/
def State.setHalted (s : State) (h : Option UnknownOpcode) : State := { s with halted := h }

/-! ## Results into registers and flags -/

/-- A load into `A`: Z and N from the value (41_load_store_transfer.md, 10_state.md R21). -/
def loadA (v : Byte) (s : State) : State := (s.setA v).setP (setZN v s.p)

/-- A load into `X`. -/
def loadX (v : Byte) (s : State) : State := (s.setX v).setP (setZN v s.p)

/-- A load into `Y`. -/
def loadY (v : Byte) (s : State) : State := (s.setY v).setP (setZN v s.p)

/-- An ALU operation on `A`, an operand and the flags, with its result into `A` and its flags into `P`. -/
def aluA (f : Byte → Byte → Flags → Byte × Flags) (m : Byte) (s : State) : State :=
  let r := f s.a m s.p
  (s.setA r.1).setP r.2

/-- A comparison of a register with an operand (42_arithmetic_logic_compare.md R150): flags only. -/
def compareReg (reg m : Byte) (s : State) : State := s.setP (compareFlags s.cfg.cmpNRule reg m s.p)

/-! ## Access paths (20_memory.md) -/

/-- `RawRead(a)` (R43). -/
def rawRead (a : Word) (s : State) : Byte := s.mem.read (mirror a).toNat

/-- `RawWrite(a, v)` (R43). -/
def rawWrite (a : Word) (v : Byte) (s : State) : State := s.setMem (s.mem.write (mirror a).toNat v)

/-- `Fetch(a)` (R45): no side effect, whatever the address. -/
def fetch (a : Word) (s : State) : Byte := rawRead a s

/-- `MemRead(a, 1)` (R46). -/
def memRead (a : Word) (s : State) : Byte × State :=
  match windowRead (mirror a) s.ppu with
  | some (v, u) => (v, s.setPpu u)
  | none => (rawRead a s, s)

/-- `MemWrite(a, 1, v)` (R47): the Timing Unit effect first, then the array cell, in every case. -/
def memWrite (a : Word) (v : Byte) (s : State) : State :=
  rawWrite a v (s.setPpu (windowWrite (mirror a) v s.ppu))

/-- `MemRead(a, 2)` (R48): low byte first, each byte mapped on its own. -/
def memRead16 (a : Word) (s : State) : Word × State :=
  let l := memRead a s
  let h := memRead (a + 1#16) l.2
  (word h.1 l.1, h.2)

/-! ## Stack (40_addressing_and_stack.md) -/

/-- The address of the stack byte `SP` designates (10_state.md R11). -/
def stackAddr (sp : Byte) : Word := word 0x01#8 sp

/-- `Push(v)` (R112). -/
def push (v : Byte) (s : State) : State :=
  let t := memWrite (stackAddr s.sp) v s
  t.setSp (t.sp - 0x01#8)

/-- `Pop()` (R113). -/
def pop (s : State) : Byte × State :=
  let t := s.setSp (s.sp + 0x01#8)
  memRead (stackAddr t.sp) t

/-- `Push16(w)` (R114): high byte first. -/
def push16 (w : Word) (s : State) : State := push (loByte w) (push (hiByte w) s)

/-- `Pop16()` (R114): low byte first. -/
def pop16 (s : State) : Word × State :=
  let l := pop s
  let h := pop l.2
  (word h.1 l.1, h.2)

/-! ## Exceptions (60_exceptions.md) -/

/-- The NMI vector (R269). -/
def nmiVector : Word := 0xFFFA#16
/-- The reset vector (R269). -/
def resetVector : Word := 0xFFFC#16
/-- The IRQ and BRK vector (R269). -/
def irqVector : Word := 0xFFFE#16

/-- Entry to an exception, shared by BRK (45_flags_system.md R208), NMI (R267) and IRQ (R268): push the return address,
push the status copy with bit 4 equal to `b`, set I, load `PC` from the vector. The copy shows the old I; D is not
changed. -/
def enterException (ret : Word) (b : Bool) (vector : Word) (s : State) : State :=
  let t := push16 ret s
  let t := push (pByte t.p b) t
  let t := t.setP { t.p with i := true }
  let r := memRead16 vector t
  r.2.setPc r.1

/-- Return from an exception (R273, 45_flags_system.md R209): the six flags, then `PC`, nothing added. -/
def returnFromException (s : State) : State :=
  let f := pop s
  let r := pop16 (f.2.setP (flagsOfByte f.1))
  r.2.setPc r.1

/-- `NmiEntry()` and the cost it returns (R267, 38_fetch_execute.md R90). -/
def nmiEntry (s : State) : State :=
  (enterException s.pc false nmiVector (s.setNmi false)).setWait (s.cfg.intCost - 1)

/-- `IrqEntry()` and the cost it returns (R268, 38_fetch_execute.md R90). -/
def irqEntry (s : State) : State :=
  (enterException s.pc false irqVector s).setWait (s.cfg.intCost - 1)

/-- `raise UnknownOpcode(op, a0)` at the instruction boundary with `PC = a0` (R261): the opcode byte is consumed, the
record is set, nothing else changes. -/
def raiseUnknownOpcode (op : Byte) (s : State) : State :=
  (s.setPc (s.pc + 1#16)).setHalted (some { op := op, pc := s.pc })

/-! ## Beginning and end of an instruction (38_fetch_execute.md) -/

/-- `PC <- (a0 + L) mod 0x10000`, done before the handler runs (R91, R93). -/
def advance (len : Nat) (s : State) : State := s.setPc (s.pc + BitVec.ofNat 16 len)

/-- The handler returns `cost`, and the Scheduler sets `wait <- cost - 1` (R90, R96). -/
def complete (cost : Nat) (s : State) : Host.Outcome State Fault Refusal := .next (s.setWait (cost - 1))

end Sys2Proof.Machine
end

