-- ==== Sys2Proof/Machine/Operands.lean ====
section
/-! DEFINITION. The operand forms (40_addressing_and_stack.md R100 to R111) and the four shapes of instruction built on
them: one that reads its operand, one that stores, one that reads and writes back (43_shift_incdec.md R170), and the
branch (44_control_transfer.md R180). -/

namespace Sys2Proof.Machine

/-- Bytes an instruction of this form takes (30_encoding.md R71, R72). -/
def operandLength (m : Operand) : Nat :=
  match m with
  | .acc => 1
  | .imm _ | .zp _ | .zpx _ | .zpy _ | .indx _ | .indy _ => 2
  | .abs _ | .absx _ | .absy _ => 3

/-- A zero-page pointer: both bytes are read from page zero (R107, R108). -/
def zeroPagePointer (p : Byte) (s : State) : Word :=
  word (memRead (zeroPage (p + 0x01#8)) s).1 (memRead (zeroPage p) s).1

/-- `base + index` and the page-cross flag: the low byte of the sum overflowed past 0xFF (R105, R106, R108). -/
def indexed (base : Word) (index : Byte) : Word × Bool :=
  (base + zeroPage index, decide ((loByte base).toNat + index.toNat > 0xFF))

/-- The resolver (R100): `(ea, crossed)`. It writes nothing, and the pointer bytes it reads lie in page zero, whose
reads have no side effect. The two forms that are no resolver mode have no effective address (R110); they are answered
`(0, false)` and no meaning asks for them. -/
def resolve (m : Operand) (s : State) : Word × Bool :=
  match m with
  | .acc | .imm _ => (0x0000#16, false)
  | .zp d => (zeroPage d, false)
  | .zpx d => (zeroPage (d + s.x), false)
  | .zpy d => (zeroPage (d + s.y), false)
  | .abs w => (w, false)
  | .absx w => indexed w s.x
  | .absy w => indexed w s.y
  | .indx d => (zeroPagePointer (d + s.x) s, false)
  | .indy d => indexed (zeroPagePointer d s) s.y

/-- `Operand()` (R110): the operand's value and the state after it is read. -/
def readOperand (m : Operand) (s : State) : Byte × State :=
  match m with
  | .acc => (s.a, s)
  | .imm d => (d, s)
  | m => memRead (resolve m s).1 s

/-- The page-cross bonus of an instruction marked as cycle-penalised (R109). -/
def crossBonus (m : Operand) (s : State) : Nat := if (resolve m s).2 then 1 else 0

/-- An instruction that reads its operand: advance, read, apply `f` to the value. `penalised` says whether the table
marks the row with `+` (30_encoding.md R76, R77). -/
def readInstr (m : Operand) (cost : Nat) (penalised : Bool) (f : Byte → State → State) (s : State) :
    Host.Outcome State Fault Refusal :=
  let t := advance (operandLength m) s
  let r := readOperand m t
  complete (cost + if penalised then crossBonus m t else 0) (f r.1 r.2)

/-- An instruction that stores `v s`: it does not read the operand and never pays the page-cross cycle (R109). -/
def storeInstr (m : Operand) (cost : Nat) (v : State → Byte) (s : State) : Host.Outcome State Fault Refusal :=
  let t := advance (operandLength m) s
  complete cost (memWrite (resolve m t).1 (v t) t)

/-- A read-modify-write instruction (43_shift_incdec.md R170): one read, one write of the same operand; the effective
address is resolved once, before the read. -/
def modifyInstr (m : Operand) (cost : Nat) (f : Byte → Flags → Byte × Flags) (s : State) :
    Host.Outcome State Fault Refusal :=
  let t := advance (operandLength m) s
  let ea := (resolve m t).1
  let r := readOperand m t
  let q := f r.1 r.2.p
  let u := r.2.setP q.2
  complete cost (match m with
    | .acc => u.setA q.1
    | .imm _ => u
    | _ => memWrite ea q.1 u)

/-- An instruction with no operand bytes (R110, form `imp`). -/
def impliedInstr (cost : Nat) (f : State → State) (s : State) : Host.Outcome State Fault Refusal :=
  complete cost (f (advance 1 s))

/-- `Branch(cond)` (44_control_transfer.md R180): 2 ticks, 3 when taken, 4 when taken to another page than that of the
address the offset is added to. -/
def branchInstr (d : Byte) (cond : Flags → Bool) (s : State) : Host.Outcome State Fault Refusal :=
  let t := advance 2 s
  let target := t.pc + sext8 d
  if cond t.p then complete (3 + if page target ≠ page t.pc then 1 else 0) (t.setPc target)
  else complete 2 t

end Sys2Proof.Machine
end

