-- ==== Sys2Proof/Machine/Arithmetic.lean ====
section
/-! DEFINITION. Arithmetic, logic, compare and bit test: the meanings of
42_arithmetic_logic_compare.md. Opcode bytes and base costs are those of 30_encoding.md R76. -/

namespace Sys2Proof.Machine

/-! ### ADC, add with carry (R140) -/

/-- ADC imm, opcode 69. -/
def execAdcImm (d : Byte) (s : State) : Host.Outcome State Fault Refusal :=
  readInstr (.imm d) 2 false (aluA adc) s
/-- ADC zp, opcode 65. -/
def execAdcZp (d : Byte) (s : State) : Host.Outcome State Fault Refusal :=
  readInstr (.zp d) 3 false (aluA adc) s
/-- ADC zpx, opcode 75. -/
def execAdcZpx (d : Byte) (s : State) : Host.Outcome State Fault Refusal :=
  readInstr (.zpx d) 4 false (aluA adc) s
/-- ADC abs, opcode 6D. -/
def execAdcAbs (w : Word) (s : State) : Host.Outcome State Fault Refusal :=
  readInstr (.abs w) 4 false (aluA adc) s
/-- ADC absx, opcode 7D. -/
def execAdcAbsx (w : Word) (s : State) : Host.Outcome State Fault Refusal :=
  readInstr (.absx w) 4 true (aluA adc) s
/-- ADC absy, opcode 79. -/
def execAdcAbsy (w : Word) (s : State) : Host.Outcome State Fault Refusal :=
  readInstr (.absy w) 4 true (aluA adc) s
/-- ADC indx, opcode 61. -/
def execAdcIndx (d : Byte) (s : State) : Host.Outcome State Fault Refusal :=
  readInstr (.indx d) 6 false (aluA adc) s
/-- ADC indy, opcode 71. -/
def execAdcIndy (d : Byte) (s : State) : Host.Outcome State Fault Refusal :=
  readInstr (.indy d) 5 true (aluA adc) s

/-! ### SBC, subtract with carry (R141) -/

/-- SBC imm, opcode E9. -/
def execSbcImm (d : Byte) (s : State) : Host.Outcome State Fault Refusal :=
  readInstr (.imm d) 2 false (aluA sbc) s
/-- SBC zp, opcode E5. -/
def execSbcZp (d : Byte) (s : State) : Host.Outcome State Fault Refusal :=
  readInstr (.zp d) 3 false (aluA sbc) s
/-- SBC zpx, opcode F5. -/
def execSbcZpx (d : Byte) (s : State) : Host.Outcome State Fault Refusal :=
  readInstr (.zpx d) 4 false (aluA sbc) s
/-- SBC abs, opcode ED. -/
def execSbcAbs (w : Word) (s : State) : Host.Outcome State Fault Refusal :=
  readInstr (.abs w) 4 false (aluA sbc) s
/-- SBC absx, opcode FD. -/
def execSbcAbsx (w : Word) (s : State) : Host.Outcome State Fault Refusal :=
  readInstr (.absx w) 4 true (aluA sbc) s
/-- SBC absy, opcode F9. -/
def execSbcAbsy (w : Word) (s : State) : Host.Outcome State Fault Refusal :=
  readInstr (.absy w) 4 true (aluA sbc) s
/-- SBC indx, opcode E1. -/
def execSbcIndx (d : Byte) (s : State) : Host.Outcome State Fault Refusal :=
  readInstr (.indx d) 6 false (aluA sbc) s
/-- SBC indy, opcode F1. -/
def execSbcIndy (d : Byte) (s : State) : Host.Outcome State Fault Refusal :=
  readInstr (.indy d) 5 true (aluA sbc) s

/-! ### AND, and into A (R142) -/

/-- AND imm, opcode 29. -/
def execAndImm (d : Byte) (s : State) : Host.Outcome State Fault Refusal :=
  readInstr (.imm d) 2 false (fun m t => loadA (t.a &&& m) t) s
/-- AND zp, opcode 25. -/
def execAndZp (d : Byte) (s : State) : Host.Outcome State Fault Refusal :=
  readInstr (.zp d) 3 false (fun m t => loadA (t.a &&& m) t) s
/-- AND zpx, opcode 35. -/
def execAndZpx (d : Byte) (s : State) : Host.Outcome State Fault Refusal :=
  readInstr (.zpx d) 4 false (fun m t => loadA (t.a &&& m) t) s
/-- AND abs, opcode 2D. -/
def execAndAbs (w : Word) (s : State) : Host.Outcome State Fault Refusal :=
  readInstr (.abs w) 4 false (fun m t => loadA (t.a &&& m) t) s
/-- AND absx, opcode 3D. -/
def execAndAbsx (w : Word) (s : State) : Host.Outcome State Fault Refusal :=
  readInstr (.absx w) 4 true (fun m t => loadA (t.a &&& m) t) s
/-- AND absy, opcode 39. -/
def execAndAbsy (w : Word) (s : State) : Host.Outcome State Fault Refusal :=
  readInstr (.absy w) 4 true (fun m t => loadA (t.a &&& m) t) s
/-- AND indx, opcode 21. -/
def execAndIndx (d : Byte) (s : State) : Host.Outcome State Fault Refusal :=
  readInstr (.indx d) 6 false (fun m t => loadA (t.a &&& m) t) s
/-- AND indy, opcode 31. -/
def execAndIndy (d : Byte) (s : State) : Host.Outcome State Fault Refusal :=
  readInstr (.indy d) 5 true (fun m t => loadA (t.a &&& m) t) s

/-! ### ORA, or into A (R143) -/

/-- ORA imm, opcode 09. -/
def execOraImm (d : Byte) (s : State) : Host.Outcome State Fault Refusal :=
  readInstr (.imm d) 2 false (fun m t => loadA (t.a ||| m) t) s
/-- ORA zp, opcode 05. -/
def execOraZp (d : Byte) (s : State) : Host.Outcome State Fault Refusal :=
  readInstr (.zp d) 3 false (fun m t => loadA (t.a ||| m) t) s
/-- ORA zpx, opcode 15. -/
def execOraZpx (d : Byte) (s : State) : Host.Outcome State Fault Refusal :=
  readInstr (.zpx d) 4 false (fun m t => loadA (t.a ||| m) t) s
/-- ORA abs, opcode 0D. -/
def execOraAbs (w : Word) (s : State) : Host.Outcome State Fault Refusal :=
  readInstr (.abs w) 4 false (fun m t => loadA (t.a ||| m) t) s
/-- ORA absx, opcode 1D. -/
def execOraAbsx (w : Word) (s : State) : Host.Outcome State Fault Refusal :=
  readInstr (.absx w) 4 true (fun m t => loadA (t.a ||| m) t) s
/-- ORA absy, opcode 19. -/
def execOraAbsy (w : Word) (s : State) : Host.Outcome State Fault Refusal :=
  readInstr (.absy w) 4 true (fun m t => loadA (t.a ||| m) t) s
/-- ORA indx, opcode 01. -/
def execOraIndx (d : Byte) (s : State) : Host.Outcome State Fault Refusal :=
  readInstr (.indx d) 6 false (fun m t => loadA (t.a ||| m) t) s
/-- ORA indy, opcode 11. -/
def execOraIndy (d : Byte) (s : State) : Host.Outcome State Fault Refusal :=
  readInstr (.indy d) 5 true (fun m t => loadA (t.a ||| m) t) s

/-! ### EOR, exclusive or into A (R144) -/

/-- EOR imm, opcode 49. -/
def execEorImm (d : Byte) (s : State) : Host.Outcome State Fault Refusal :=
  readInstr (.imm d) 2 false (fun m t => loadA (t.a ^^^ m) t) s
/-- EOR zp, opcode 45. -/
def execEorZp (d : Byte) (s : State) : Host.Outcome State Fault Refusal :=
  readInstr (.zp d) 3 false (fun m t => loadA (t.a ^^^ m) t) s
/-- EOR zpx, opcode 55. -/
def execEorZpx (d : Byte) (s : State) : Host.Outcome State Fault Refusal :=
  readInstr (.zpx d) 4 false (fun m t => loadA (t.a ^^^ m) t) s
/-- EOR abs, opcode 4D. -/
def execEorAbs (w : Word) (s : State) : Host.Outcome State Fault Refusal :=
  readInstr (.abs w) 4 false (fun m t => loadA (t.a ^^^ m) t) s
/-- EOR absx, opcode 5D. -/
def execEorAbsx (w : Word) (s : State) : Host.Outcome State Fault Refusal :=
  readInstr (.absx w) 4 true (fun m t => loadA (t.a ^^^ m) t) s
/-- EOR absy, opcode 59. -/
def execEorAbsy (w : Word) (s : State) : Host.Outcome State Fault Refusal :=
  readInstr (.absy w) 4 true (fun m t => loadA (t.a ^^^ m) t) s
/-- EOR indx, opcode 41. -/
def execEorIndx (d : Byte) (s : State) : Host.Outcome State Fault Refusal :=
  readInstr (.indx d) 6 false (fun m t => loadA (t.a ^^^ m) t) s
/-- EOR indy, opcode 51. -/
def execEorIndy (d : Byte) (s : State) : Host.Outcome State Fault Refusal :=
  readInstr (.indy d) 5 true (fun m t => loadA (t.a ^^^ m) t) s

/-! ### CMP, compare A (R145) -/

/-- CMP imm, opcode C9. -/
def execCmpImm (d : Byte) (s : State) : Host.Outcome State Fault Refusal :=
  readInstr (.imm d) 2 false (fun m t => compareReg t.a m t) s
/-- CMP zp, opcode C5. -/
def execCmpZp (d : Byte) (s : State) : Host.Outcome State Fault Refusal :=
  readInstr (.zp d) 3 false (fun m t => compareReg t.a m t) s
/-- CMP zpx, opcode D5. -/
def execCmpZpx (d : Byte) (s : State) : Host.Outcome State Fault Refusal :=
  readInstr (.zpx d) 4 false (fun m t => compareReg t.a m t) s
/-- CMP abs, opcode CD. -/
def execCmpAbs (w : Word) (s : State) : Host.Outcome State Fault Refusal :=
  readInstr (.abs w) 4 false (fun m t => compareReg t.a m t) s
/-- CMP absx, opcode DD. -/
def execCmpAbsx (w : Word) (s : State) : Host.Outcome State Fault Refusal :=
  readInstr (.absx w) 4 true (fun m t => compareReg t.a m t) s
/-- CMP absy, opcode D9. -/
def execCmpAbsy (w : Word) (s : State) : Host.Outcome State Fault Refusal :=
  readInstr (.absy w) 4 true (fun m t => compareReg t.a m t) s
/-- CMP indx, opcode C1. -/
def execCmpIndx (d : Byte) (s : State) : Host.Outcome State Fault Refusal :=
  readInstr (.indx d) 6 false (fun m t => compareReg t.a m t) s
/-- CMP indy, opcode D1. -/
def execCmpIndy (d : Byte) (s : State) : Host.Outcome State Fault Refusal :=
  readInstr (.indy d) 5 true (fun m t => compareReg t.a m t) s

/-! ### CPX, compare X (R146) -/

/-- CPX imm, opcode E0. -/
def execCpxImm (d : Byte) (s : State) : Host.Outcome State Fault Refusal :=
  readInstr (.imm d) 2 false (fun m t => compareReg t.x m t) s
/-- CPX zp, opcode E4. -/
def execCpxZp (d : Byte) (s : State) : Host.Outcome State Fault Refusal :=
  readInstr (.zp d) 3 false (fun m t => compareReg t.x m t) s
/-- CPX abs, opcode EC. -/
def execCpxAbs (w : Word) (s : State) : Host.Outcome State Fault Refusal :=
  readInstr (.abs w) 4 false (fun m t => compareReg t.x m t) s

/-! ### CPY, compare Y (R147) -/

/-- CPY imm, opcode C0. -/
def execCpyImm (d : Byte) (s : State) : Host.Outcome State Fault Refusal :=
  readInstr (.imm d) 2 false (fun m t => compareReg t.y m t) s
/-- CPY zp, opcode C4. -/
def execCpyZp (d : Byte) (s : State) : Host.Outcome State Fault Refusal :=
  readInstr (.zp d) 3 false (fun m t => compareReg t.y m t) s
/-- CPY abs, opcode CC. -/
def execCpyAbs (w : Word) (s : State) : Host.Outcome State Fault Refusal :=
  readInstr (.abs w) 4 false (fun m t => compareReg t.y m t) s

/-! ### BIT, test bits against A (R148): N and V are bits 7 and 6 of the memory byte -/

/-- BIT zp, opcode 24. -/
def execBitZp (d : Byte) (s : State) : Host.Outcome State Fault Refusal :=
  readInstr (.zp d) 3 false (fun m t => t.setP (bitTest t.a m t.p)) s
/-- BIT abs, opcode 2C. -/
def execBitAbs (w : Word) (s : State) : Host.Outcome State Fault Refusal :=
  readInstr (.abs w) 4 false (fun m t => t.setP (bitTest t.a m t.p)) s

end Sys2Proof.Machine
end

