-- ==== Sys2Proof/Machine/Control.lean ====
section
/-! DEFINITION. Branches, jumps, call and return: the meanings of
44_control_transfer.md. Opcode bytes and base costs are those of 30_encoding.md R76. -/

namespace Sys2Proof.Machine

/-- JMP indirect (R189): the pointer's high byte is read from the same page, through the I/O bridge. -/
def jumpIndirect (w : Word) (s : State) : State :=
  let l := memRead w s
  let h := memRead (word (hiByte w) (loByte w + 0x01#8)) l.2
  h.2.setPc (word h.1 l.1)

/-! ### BCC, branch if carry clear (R181) -/

/-- BCC rel, opcode 90. -/
def execBcc (d : Byte) (s : State) : Host.Outcome State Fault Refusal :=
  branchInstr d (fun p => !p.c) s

/-! ### BCS, branch if carry set (R182) -/

/-- BCS rel, opcode B0. -/
def execBcs (d : Byte) (s : State) : Host.Outcome State Fault Refusal :=
  branchInstr d (fun p => p.c) s

/-! ### BEQ, branch if zero set (R183) -/

/-- BEQ rel, opcode F0. -/
def execBeq (d : Byte) (s : State) : Host.Outcome State Fault Refusal :=
  branchInstr d (fun p => p.z) s

/-! ### BNE, branch if zero clear (R184) -/

/-- BNE rel, opcode D0. -/
def execBne (d : Byte) (s : State) : Host.Outcome State Fault Refusal :=
  branchInstr d (fun p => !p.z) s

/-! ### BPL, branch if negative clear (R185) -/

/-- BPL rel, opcode 10. -/
def execBpl (d : Byte) (s : State) : Host.Outcome State Fault Refusal :=
  branchInstr d (fun p => !p.n) s

/-! ### BMI, branch if negative set (R186) -/

/-- BMI rel, opcode 30. -/
def execBmi (d : Byte) (s : State) : Host.Outcome State Fault Refusal :=
  branchInstr d (fun p => p.n) s

/-! ### BVC, branch if overflow clear (R187) -/

/-- BVC rel, opcode 50. -/
def execBvc (d : Byte) (s : State) : Host.Outcome State Fault Refusal :=
  branchInstr d (fun p => !p.v) s

/-! ### BVS, branch if overflow set (R188) -/

/-- BVS rel, opcode 70. -/
def execBvs (d : Byte) (s : State) : Host.Outcome State Fault Refusal :=
  branchInstr d (fun p => p.v) s

/-! ### JMP, jump (R189) -/

/-- JMP abs, opcode 4C. -/
def execJmpAbs (w : Word) (s : State) : Host.Outcome State Fault Refusal :=
  complete 3 ((advance 3 s).setPc w)
/-- JMP ind, opcode 6C. -/
def execJmpInd (w : Word) (s : State) : Host.Outcome State Fault Refusal :=
  complete 5 (jumpIndirect w (advance 3 s))

/-! ### JSR, jump to subroutine (R190): pushes the address of its last byte, high byte first -/

/-- JSR abs, opcode 20. -/
def execJsr (w : Word) (s : State) : Host.Outcome State Fault Refusal :=
  complete 6 ((push16 ((advance 3 s).pc - 1#16) (advance 3 s)).setPc w)

/-! ### RTS, return from subroutine (R191): adds 1 to the popped address -/

/-- RTS, opcode 60. -/
def execRts (s : State) : Host.Outcome State Fault Refusal :=
  impliedInstr 6 (fun t => (pop16 t).2.setPc ((pop16 t).1 + 1#16)) s

end Sys2Proof.Machine
end

