-- ==== Sys2Proof/Machine/FlagSystem.lean ====
section
/-! DEFINITION. Flag instructions, NOP, BRK and RTI: the meanings of
45_flags_system.md. Opcode bytes and base costs are those of 30_encoding.md R76. -/

namespace Sys2Proof.Machine

/-! ### CLC, clear carry (R200) -/

/-- CLC, opcode 18. -/
def execClc (s : State) : Host.Outcome State Fault Refusal :=
  impliedInstr 2 (fun t => t.setP { t.p with c := false }) s

/-! ### SEC, set carry (R201) -/

/-- SEC, opcode 38. -/
def execSec (s : State) : Host.Outcome State Fault Refusal :=
  impliedInstr 2 (fun t => t.setP { t.p with c := true }) s

/-! ### CLI, clear interrupt-disable (R202) -/

/-- CLI, opcode 58. -/
def execCli (s : State) : Host.Outcome State Fault Refusal :=
  impliedInstr 2 (fun t => t.setP { t.p with i := false }) s

/-! ### SEI, set interrupt-disable (R203) -/

/-- SEI, opcode 78. -/
def execSei (s : State) : Host.Outcome State Fault Refusal :=
  impliedInstr 2 (fun t => t.setP { t.p with i := true }) s

/-! ### CLV, clear overflow (R204) -/

/-- CLV, opcode B8. -/
def execClv (s : State) : Host.Outcome State Fault Refusal :=
  impliedInstr 2 (fun t => t.setP { t.p with v := false }) s

/-! ### CLD, clear decimal (R205) -/

/-- CLD, opcode D8. -/
def execCld (s : State) : Host.Outcome State Fault Refusal :=
  impliedInstr 2 (fun t => t.setP { t.p with d := false }) s

/-! ### SED, set decimal (R206) -/

/-- SED, opcode F8. -/
def execSed (s : State) : Host.Outcome State Fault Refusal :=
  impliedInstr 2 (fun t => t.setP { t.p with d := true }) s

/-! ### NOP, no operation (R207): only `PC` advances -/

/-- NOP, opcode EA. -/
def execNop (s : State) : Host.Outcome State Fault Refusal :=
  impliedInstr 2 (fun t => t) s

/-! ### BRK, software interrupt (R208): the return address is `a0 + 2`, the padding byte is not fetched -/

/-- BRK, opcode 00. -/
def execBrk (s : State) : Host.Outcome State Fault Refusal :=
  complete s.cfg.intCost (enterException (s.pc + 2#16) true irqVector s)

/-! ### RTI, return from interrupt (R209): pops the flags, then `PC`, and adds nothing -/

/-- RTI, opcode 40. -/
def execRti (s : State) : Host.Outcome State Fault Refusal :=
  impliedInstr 6 returnFromException s

end Sys2Proof.Machine
end

