-- ==== Sys2Proof/Machine/LoadStore.lean ====
section
/-! DEFINITION. Loads, stores, register transfers and stack instructions: the meanings of
41_load_store_transfer.md. Opcode bytes and base costs are those of 30_encoding.md R76. -/

namespace Sys2Proof.Machine

/-! ### LDA, load accumulator (R120) -/

/-- LDA imm, opcode A9. -/
def execLdaImm (d : Byte) (s : State) : Host.Outcome State Fault Refusal :=
  readInstr (.imm d) 2 false loadA s
/-- LDA zp, opcode A5. -/
def execLdaZp (d : Byte) (s : State) : Host.Outcome State Fault Refusal :=
  readInstr (.zp d) 3 false loadA s
/-- LDA zpx, opcode B5. -/
def execLdaZpx (d : Byte) (s : State) : Host.Outcome State Fault Refusal :=
  readInstr (.zpx d) 4 false loadA s
/-- LDA abs, opcode AD. -/
def execLdaAbs (w : Word) (s : State) : Host.Outcome State Fault Refusal :=
  readInstr (.abs w) 4 false loadA s
/-- LDA absx, opcode BD. -/
def execLdaAbsx (w : Word) (s : State) : Host.Outcome State Fault Refusal :=
  readInstr (.absx w) 4 true loadA s
/-- LDA absy, opcode B9. -/
def execLdaAbsy (w : Word) (s : State) : Host.Outcome State Fault Refusal :=
  readInstr (.absy w) 4 true loadA s
/-- LDA indx, opcode A1. -/
def execLdaIndx (d : Byte) (s : State) : Host.Outcome State Fault Refusal :=
  readInstr (.indx d) 6 false loadA s
/-- LDA indy, opcode B1. -/
def execLdaIndy (d : Byte) (s : State) : Host.Outcome State Fault Refusal :=
  readInstr (.indy d) 5 true loadA s

/-! ### LDX, load X (R121): the indexed forms use `Y` -/

/-- LDX imm, opcode A2. -/
def execLdxImm (d : Byte) (s : State) : Host.Outcome State Fault Refusal :=
  readInstr (.imm d) 2 false loadX s
/-- LDX zp, opcode A6. -/
def execLdxZp (d : Byte) (s : State) : Host.Outcome State Fault Refusal :=
  readInstr (.zp d) 3 false loadX s
/-- LDX zpy, opcode B6. -/
def execLdxZpy (d : Byte) (s : State) : Host.Outcome State Fault Refusal :=
  readInstr (.zpy d) 4 false loadX s
/-- LDX abs, opcode AE. -/
def execLdxAbs (w : Word) (s : State) : Host.Outcome State Fault Refusal :=
  readInstr (.abs w) 4 false loadX s
/-- LDX absy, opcode BE. -/
def execLdxAbsy (w : Word) (s : State) : Host.Outcome State Fault Refusal :=
  readInstr (.absy w) 4 true loadX s

/-! ### LDY, load Y (R122): the indexed forms use `X` -/

/-- LDY imm, opcode A0. -/
def execLdyImm (d : Byte) (s : State) : Host.Outcome State Fault Refusal :=
  readInstr (.imm d) 2 false loadY s
/-- LDY zp, opcode A4. -/
def execLdyZp (d : Byte) (s : State) : Host.Outcome State Fault Refusal :=
  readInstr (.zp d) 3 false loadY s
/-- LDY zpx, opcode B4. -/
def execLdyZpx (d : Byte) (s : State) : Host.Outcome State Fault Refusal :=
  readInstr (.zpx d) 4 false loadY s
/-- LDY abs, opcode AC. -/
def execLdyAbs (w : Word) (s : State) : Host.Outcome State Fault Refusal :=
  readInstr (.abs w) 4 false loadY s
/-- LDY absx, opcode BC. -/
def execLdyAbsx (w : Word) (s : State) : Host.Outcome State Fault Refusal :=
  readInstr (.absx w) 4 true loadY s

/-! ### STA, store accumulator (R123): does not read `ea`; never pays the page-cross cycle -/

/-- STA zp, opcode 85. -/
def execStaZp (d : Byte) (s : State) : Host.Outcome State Fault Refusal :=
  storeInstr (.zp d) 3 (fun t => t.a) s
/-- STA zpx, opcode 95. -/
def execStaZpx (d : Byte) (s : State) : Host.Outcome State Fault Refusal :=
  storeInstr (.zpx d) 4 (fun t => t.a) s
/-- STA abs, opcode 8D. -/
def execStaAbs (w : Word) (s : State) : Host.Outcome State Fault Refusal :=
  storeInstr (.abs w) 4 (fun t => t.a) s
/-- STA absx, opcode 9D. -/
def execStaAbsx (w : Word) (s : State) : Host.Outcome State Fault Refusal :=
  storeInstr (.absx w) 5 (fun t => t.a) s
/-- STA absy, opcode 99. -/
def execStaAbsy (w : Word) (s : State) : Host.Outcome State Fault Refusal :=
  storeInstr (.absy w) 5 (fun t => t.a) s
/-- STA indx, opcode 81. -/
def execStaIndx (d : Byte) (s : State) : Host.Outcome State Fault Refusal :=
  storeInstr (.indx d) 6 (fun t => t.a) s
/-- STA indy, opcode 91. -/
def execStaIndy (d : Byte) (s : State) : Host.Outcome State Fault Refusal :=
  storeInstr (.indy d) 6 (fun t => t.a) s

/-! ### STX, store X (R124) -/

/-- STX zp, opcode 86. -/
def execStxZp (d : Byte) (s : State) : Host.Outcome State Fault Refusal :=
  storeInstr (.zp d) 3 (fun t => t.x) s
/-- STX zpy, opcode 96. -/
def execStxZpy (d : Byte) (s : State) : Host.Outcome State Fault Refusal :=
  storeInstr (.zpy d) 4 (fun t => t.x) s
/-- STX abs, opcode 8E. -/
def execStxAbs (w : Word) (s : State) : Host.Outcome State Fault Refusal :=
  storeInstr (.abs w) 4 (fun t => t.x) s

/-! ### STY, store Y (R125) -/

/-- STY zp, opcode 84. -/
def execStyZp (d : Byte) (s : State) : Host.Outcome State Fault Refusal :=
  storeInstr (.zp d) 3 (fun t => t.y) s
/-- STY zpx, opcode 94. -/
def execStyZpx (d : Byte) (s : State) : Host.Outcome State Fault Refusal :=
  storeInstr (.zpx d) 4 (fun t => t.y) s
/-- STY abs, opcode 8C. -/
def execStyAbs (w : Word) (s : State) : Host.Outcome State Fault Refusal :=
  storeInstr (.abs w) 4 (fun t => t.y) s

/-! ### TAX, A to X (R126) -/

/-- TAX, opcode AA. -/
def execTax (s : State) : Host.Outcome State Fault Refusal :=
  impliedInstr 2 (fun t => loadX t.a t) s

/-! ### TAY, A to Y (R127) -/

/-- TAY, opcode A8. -/
def execTay (s : State) : Host.Outcome State Fault Refusal :=
  impliedInstr 2 (fun t => loadY t.a t) s

/-! ### TXA, X to A (R128) -/

/-- TXA, opcode 8A. -/
def execTxa (s : State) : Host.Outcome State Fault Refusal :=
  impliedInstr 2 (fun t => loadA t.x t) s

/-! ### TYA, Y to A (R129) -/

/-- TYA, opcode 98. -/
def execTya (s : State) : Host.Outcome State Fault Refusal :=
  impliedInstr 2 (fun t => loadA t.y t) s

/-! ### TSX, SP to X (R130) -/

/-- TSX, opcode BA. -/
def execTsx (s : State) : Host.Outcome State Fault Refusal :=
  impliedInstr 2 (fun t => loadX t.sp t) s

/-! ### TXS, X to SP (R131): writes no flag -/

/-- TXS, opcode 9A. -/
def execTxs (s : State) : Host.Outcome State Fault Refusal :=
  impliedInstr 2 (fun t => t.setSp t.x) s

/-! ### PHA, push A (R132) -/

/-- PHA, opcode 48. -/
def execPha (s : State) : Host.Outcome State Fault Refusal :=
  impliedInstr 3 (fun t => push t.a t) s

/-! ### PHP, push status (R133): the pushed copy has bits 5 and 4 both 1; `P` does not change -/

/-- PHP, opcode 08. -/
def execPhp (s : State) : Host.Outcome State Fault Refusal :=
  impliedInstr 3 (fun t => push (pByte t.p true) t) s

/-! ### PLA, pull A (R134) -/

/-- PLA, opcode 68. -/
def execPla (s : State) : Host.Outcome State Fault Refusal :=
  impliedInstr 4 (fun t => loadA (pop t).1 (pop t).2) s

/-! ### PLP, pull status (R135): bits 5 and 4 of the pulled byte are ignored -/

/-- PLP, opcode 28. -/
def execPlp (s : State) : Host.Outcome State Fault Refusal :=
  impliedInstr 4 (fun t => (pop t).2.setP (flagsOfByte (pop t).1)) s

end Sys2Proof.Machine
end

