-- ==== Sys2Proof/Machine/ShiftCount.lean ====
section
/-! DEFINITION. Shifts, rotates, increments and decrements: the meanings of
43_shift_incdec.md. Opcode bytes and base costs are those of 30_encoding.md R76. -/

namespace Sys2Proof.Machine

/-! ### ASL, shift left (R160) -/

/-- ASL acc, opcode 0A. -/
def execAslAcc (s : State) : Host.Outcome State Fault Refusal :=
  modifyInstr .acc 2 asl s
/-- ASL zp, opcode 06. -/
def execAslZp (d : Byte) (s : State) : Host.Outcome State Fault Refusal :=
  modifyInstr (.zp d) 5 asl s
/-- ASL zpx, opcode 16. -/
def execAslZpx (d : Byte) (s : State) : Host.Outcome State Fault Refusal :=
  modifyInstr (.zpx d) 6 asl s
/-- ASL abs, opcode 0E. -/
def execAslAbs (w : Word) (s : State) : Host.Outcome State Fault Refusal :=
  modifyInstr (.abs w) 6 asl s
/-- ASL absx, opcode 1E. -/
def execAslAbsx (w : Word) (s : State) : Host.Outcome State Fault Refusal :=
  modifyInstr (.absx w) 7 asl s

/-! ### LSR, shift right (R161) -/

/-- LSR acc, opcode 4A. -/
def execLsrAcc (s : State) : Host.Outcome State Fault Refusal :=
  modifyInstr .acc 2 lsr s
/-- LSR zp, opcode 46. -/
def execLsrZp (d : Byte) (s : State) : Host.Outcome State Fault Refusal :=
  modifyInstr (.zp d) 5 lsr s
/-- LSR zpx, opcode 56. -/
def execLsrZpx (d : Byte) (s : State) : Host.Outcome State Fault Refusal :=
  modifyInstr (.zpx d) 6 lsr s
/-- LSR abs, opcode 4E. -/
def execLsrAbs (w : Word) (s : State) : Host.Outcome State Fault Refusal :=
  modifyInstr (.abs w) 6 lsr s
/-- LSR absx, opcode 5E. -/
def execLsrAbsx (w : Word) (s : State) : Host.Outcome State Fault Refusal :=
  modifyInstr (.absx w) 7 lsr s

/-! ### ROL, rotate left (R162) -/

/-- ROL acc, opcode 2A. -/
def execRolAcc (s : State) : Host.Outcome State Fault Refusal :=
  modifyInstr .acc 2 rol s
/-- ROL zp, opcode 26. -/
def execRolZp (d : Byte) (s : State) : Host.Outcome State Fault Refusal :=
  modifyInstr (.zp d) 5 rol s
/-- ROL zpx, opcode 36. -/
def execRolZpx (d : Byte) (s : State) : Host.Outcome State Fault Refusal :=
  modifyInstr (.zpx d) 6 rol s
/-- ROL abs, opcode 2E. -/
def execRolAbs (w : Word) (s : State) : Host.Outcome State Fault Refusal :=
  modifyInstr (.abs w) 6 rol s
/-- ROL absx, opcode 3E. -/
def execRolAbsx (w : Word) (s : State) : Host.Outcome State Fault Refusal :=
  modifyInstr (.absx w) 7 rol s

/-! ### ROR, rotate right (R163) -/

/-- ROR acc, opcode 6A. -/
def execRorAcc (s : State) : Host.Outcome State Fault Refusal :=
  modifyInstr .acc 2 ror s
/-- ROR zp, opcode 66. -/
def execRorZp (d : Byte) (s : State) : Host.Outcome State Fault Refusal :=
  modifyInstr (.zp d) 5 ror s
/-- ROR zpx, opcode 76. -/
def execRorZpx (d : Byte) (s : State) : Host.Outcome State Fault Refusal :=
  modifyInstr (.zpx d) 6 ror s
/-- ROR abs, opcode 6E. -/
def execRorAbs (w : Word) (s : State) : Host.Outcome State Fault Refusal :=
  modifyInstr (.abs w) 6 ror s
/-- ROR absx, opcode 7E. -/
def execRorAbsx (w : Word) (s : State) : Host.Outcome State Fault Refusal :=
  modifyInstr (.absx w) 7 ror s

/-! ### INC, increment memory (R164) -/

/-- INC zp, opcode E6. -/
def execIncZp (d : Byte) (s : State) : Host.Outcome State Fault Refusal :=
  modifyInstr (.zp d) 5 inc s
/-- INC zpx, opcode F6. -/
def execIncZpx (d : Byte) (s : State) : Host.Outcome State Fault Refusal :=
  modifyInstr (.zpx d) 6 inc s
/-- INC abs, opcode EE. -/
def execIncAbs (w : Word) (s : State) : Host.Outcome State Fault Refusal :=
  modifyInstr (.abs w) 6 inc s
/-- INC absx, opcode FE. -/
def execIncAbsx (w : Word) (s : State) : Host.Outcome State Fault Refusal :=
  modifyInstr (.absx w) 7 inc s

/-! ### DEC, decrement memory (R165) -/

/-- DEC zp, opcode C6. -/
def execDecZp (d : Byte) (s : State) : Host.Outcome State Fault Refusal :=
  modifyInstr (.zp d) 5 dec s
/-- DEC zpx, opcode D6. -/
def execDecZpx (d : Byte) (s : State) : Host.Outcome State Fault Refusal :=
  modifyInstr (.zpx d) 6 dec s
/-- DEC abs, opcode CE. -/
def execDecAbs (w : Word) (s : State) : Host.Outcome State Fault Refusal :=
  modifyInstr (.abs w) 6 dec s
/-- DEC absx, opcode DE. -/
def execDecAbsx (w : Word) (s : State) : Host.Outcome State Fault Refusal :=
  modifyInstr (.absx w) 7 dec s

/-! ### INX, increment X (R166) -/

/-- INX, opcode E8. -/
def execInx (s : State) : Host.Outcome State Fault Refusal :=
  impliedInstr 2 (fun t => loadX (t.x + 0x01#8) t) s

/-! ### INY, increment Y (R167) -/

/-- INY, opcode C8. -/
def execIny (s : State) : Host.Outcome State Fault Refusal :=
  impliedInstr 2 (fun t => loadY (t.y + 0x01#8) t) s

/-! ### DEX, decrement X (R168) -/

/-- DEX, opcode CA. -/
def execDex (s : State) : Host.Outcome State Fault Refusal :=
  impliedInstr 2 (fun t => loadX (t.x - 0x01#8) t) s

/-! ### DEY, decrement Y (R169) -/

/-- DEY, opcode 88. -/
def execDey (s : State) : Host.Outcome State Fault Refusal :=
  impliedInstr 2 (fun t => loadY (t.y - 0x01#8) t) s

end Sys2Proof.Machine
end

