-- ==== Sys2Proof/Machine/Unofficial.lean ====
section
/-! DEFINITION. The optional opcodes, which the decoder yields only when `UNOFFICIAL` is true (R220): the meanings of
48_unofficial.md. Opcode bytes and base costs are those of 30_encoding.md R76. -/

namespace Sys2Proof.Machine

/-! ### AAC, and, bit 7 into carry (R221): carry is bit 7 of the result -/

/-- AAC imm, opcode 0B. -/
def execAac0B (d : Byte) (s : State) : Host.Outcome State Fault Refusal :=
  readInstr (.imm d) 2 false (aluA aac) s
/-- AAC imm, opcode 2B. -/
def execAac2B (d : Byte) (s : State) : Host.Outcome State Fault Refusal :=
  readInstr (.imm d) 2 false (aluA aac) s

/-! ### AAX, store A and X (R222): no flag changes, `ea` is not read (log 8) -/

/-- AAX zp, opcode 87. -/
def execAaxZp (d : Byte) (s : State) : Host.Outcome State Fault Refusal :=
  storeInstr (.zp d) 3 (fun t => t.a &&& t.x) s
/-- AAX zpy, opcode 97. -/
def execAaxZpy (d : Byte) (s : State) : Host.Outcome State Fault Refusal :=
  storeInstr (.zpy d) 4 (fun t => t.a &&& t.x) s
/-- AAX abs, opcode 8F. -/
def execAaxAbs (w : Word) (s : State) : Host.Outcome State Fault Refusal :=
  storeInstr (.abs w) 4 (fun t => t.a &&& t.x) s
/-- AAX indx, opcode 83. -/
def execAaxIndx (d : Byte) (s : State) : Host.Outcome State Fault Refusal :=
  storeInstr (.indx d) 6 (fun t => t.a &&& t.x) s

/-! ### ARR, and, rotate right, own flags (R223): C and V from bits 6 and 5 of the result -/

/-- ARR imm, opcode 6B. -/
def execArr (d : Byte) (s : State) : Host.Outcome State Fault Refusal :=
  readInstr (.imm d) 2 false (aluA arr) s

end Sys2Proof.Machine
end

