-- ==== Sys2Proof/Machine/Dispatch.lean ====
section
/-! DEFINITION. Every instruction's meaning, one arm per constructor. -/

namespace Sys2Proof.Machine

def exec (i : Instr) (s : State) : Host.Outcome State Fault Refusal :=
  match i with
  -- 41_load_store_transfer.md
  | .ldaImm d => Sys2Proof.Machine.execLdaImm d s
  | .ldaZp d => Sys2Proof.Machine.execLdaZp d s
  | .ldaZpx d => Sys2Proof.Machine.execLdaZpx d s
  | .ldaAbs w => Sys2Proof.Machine.execLdaAbs w s
  | .ldaAbsx w => Sys2Proof.Machine.execLdaAbsx w s
  | .ldaAbsy w => Sys2Proof.Machine.execLdaAbsy w s
  | .ldaIndx d => Sys2Proof.Machine.execLdaIndx d s
  | .ldaIndy d => Sys2Proof.Machine.execLdaIndy d s
  | .ldxImm d => Sys2Proof.Machine.execLdxImm d s
  | .ldxZp d => Sys2Proof.Machine.execLdxZp d s
  | .ldxZpy d => Sys2Proof.Machine.execLdxZpy d s
  | .ldxAbs w => Sys2Proof.Machine.execLdxAbs w s
  | .ldxAbsy w => Sys2Proof.Machine.execLdxAbsy w s
  | .ldyImm d => Sys2Proof.Machine.execLdyImm d s
  | .ldyZp d => Sys2Proof.Machine.execLdyZp d s
  | .ldyZpx d => Sys2Proof.Machine.execLdyZpx d s
  | .ldyAbs w => Sys2Proof.Machine.execLdyAbs w s
  | .ldyAbsx w => Sys2Proof.Machine.execLdyAbsx w s
  | .staZp d => Sys2Proof.Machine.execStaZp d s
  | .staZpx d => Sys2Proof.Machine.execStaZpx d s
  | .staAbs w => Sys2Proof.Machine.execStaAbs w s
  | .staAbsx w => Sys2Proof.Machine.execStaAbsx w s
  | .staAbsy w => Sys2Proof.Machine.execStaAbsy w s
  | .staIndx d => Sys2Proof.Machine.execStaIndx d s
  | .staIndy d => Sys2Proof.Machine.execStaIndy d s
  | .stxZp d => Sys2Proof.Machine.execStxZp d s
  | .stxZpy d => Sys2Proof.Machine.execStxZpy d s
  | .stxAbs w => Sys2Proof.Machine.execStxAbs w s
  | .styZp d => Sys2Proof.Machine.execStyZp d s
  | .styZpx d => Sys2Proof.Machine.execStyZpx d s
  | .styAbs w => Sys2Proof.Machine.execStyAbs w s
  | .tax => Sys2Proof.Machine.execTax s
  | .tay => Sys2Proof.Machine.execTay s
  | .txa => Sys2Proof.Machine.execTxa s
  | .tya => Sys2Proof.Machine.execTya s
  | .tsx => Sys2Proof.Machine.execTsx s
  | .txs => Sys2Proof.Machine.execTxs s
  | .pha => Sys2Proof.Machine.execPha s
  | .php => Sys2Proof.Machine.execPhp s
  | .pla => Sys2Proof.Machine.execPla s
  | .plp => Sys2Proof.Machine.execPlp s
  -- 42_arithmetic_logic_compare.md
  | .adcImm d => Sys2Proof.Machine.execAdcImm d s
  | .adcZp d => Sys2Proof.Machine.execAdcZp d s
  | .adcZpx d => Sys2Proof.Machine.execAdcZpx d s
  | .adcAbs w => Sys2Proof.Machine.execAdcAbs w s
  | .adcAbsx w => Sys2Proof.Machine.execAdcAbsx w s
  | .adcAbsy w => Sys2Proof.Machine.execAdcAbsy w s
  | .adcIndx d => Sys2Proof.Machine.execAdcIndx d s
  | .adcIndy d => Sys2Proof.Machine.execAdcIndy d s
  | .sbcImm d => Sys2Proof.Machine.execSbcImm d s
  | .sbcZp d => Sys2Proof.Machine.execSbcZp d s
  | .sbcZpx d => Sys2Proof.Machine.execSbcZpx d s
  | .sbcAbs w => Sys2Proof.Machine.execSbcAbs w s
  | .sbcAbsx w => Sys2Proof.Machine.execSbcAbsx w s
  | .sbcAbsy w => Sys2Proof.Machine.execSbcAbsy w s
  | .sbcIndx d => Sys2Proof.Machine.execSbcIndx d s
  | .sbcIndy d => Sys2Proof.Machine.execSbcIndy d s
  | .andImm d => Sys2Proof.Machine.execAndImm d s
  | .andZp d => Sys2Proof.Machine.execAndZp d s
  | .andZpx d => Sys2Proof.Machine.execAndZpx d s
  | .andAbs w => Sys2Proof.Machine.execAndAbs w s
  | .andAbsx w => Sys2Proof.Machine.execAndAbsx w s
  | .andAbsy w => Sys2Proof.Machine.execAndAbsy w s
  | .andIndx d => Sys2Proof.Machine.execAndIndx d s
  | .andIndy d => Sys2Proof.Machine.execAndIndy d s
  | .oraImm d => Sys2Proof.Machine.execOraImm d s
  | .oraZp d => Sys2Proof.Machine.execOraZp d s
  | .oraZpx d => Sys2Proof.Machine.execOraZpx d s
  | .oraAbs w => Sys2Proof.Machine.execOraAbs w s
  | .oraAbsx w => Sys2Proof.Machine.execOraAbsx w s
  | .oraAbsy w => Sys2Proof.Machine.execOraAbsy w s
  | .oraIndx d => Sys2Proof.Machine.execOraIndx d s
  | .oraIndy d => Sys2Proof.Machine.execOraIndy d s
  | .eorImm d => Sys2Proof.Machine.execEorImm d s
  | .eorZp d => Sys2Proof.Machine.execEorZp d s
  | .eorZpx d => Sys2Proof.Machine.execEorZpx d s
  | .eorAbs w => Sys2Proof.Machine.execEorAbs w s
  | .eorAbsx w => Sys2Proof.Machine.execEorAbsx w s
  | .eorAbsy w => Sys2Proof.Machine.execEorAbsy w s
  | .eorIndx d => Sys2Proof.Machine.execEorIndx d s
  | .eorIndy d => Sys2Proof.Machine.execEorIndy d s
  | .cmpImm d => Sys2Proof.Machine.execCmpImm d s
  | .cmpZp d => Sys2Proof.Machine.execCmpZp d s
  | .cmpZpx d => Sys2Proof.Machine.execCmpZpx d s
  | .cmpAbs w => Sys2Proof.Machine.execCmpAbs w s
  | .cmpAbsx w => Sys2Proof.Machine.execCmpAbsx w s
  | .cmpAbsy w => Sys2Proof.Machine.execCmpAbsy w s
  | .cmpIndx d => Sys2Proof.Machine.execCmpIndx d s
  | .cmpIndy d => Sys2Proof.Machine.execCmpIndy d s
  | .cpxImm d => Sys2Proof.Machine.execCpxImm d s
  | .cpxZp d => Sys2Proof.Machine.execCpxZp d s
  | .cpxAbs w => Sys2Proof.Machine.execCpxAbs w s
  | .cpyImm d => Sys2Proof.Machine.execCpyImm d s
  | .cpyZp d => Sys2Proof.Machine.execCpyZp d s
  | .cpyAbs w => Sys2Proof.Machine.execCpyAbs w s
  | .bitZp d => Sys2Proof.Machine.execBitZp d s
  | .bitAbs w => Sys2Proof.Machine.execBitAbs w s
  -- 43_shift_incdec.md
  | .aslAcc => Sys2Proof.Machine.execAslAcc s
  | .aslZp d => Sys2Proof.Machine.execAslZp d s
  | .aslZpx d => Sys2Proof.Machine.execAslZpx d s
  | .aslAbs w => Sys2Proof.Machine.execAslAbs w s
  | .aslAbsx w => Sys2Proof.Machine.execAslAbsx w s
  | .lsrAcc => Sys2Proof.Machine.execLsrAcc s
  | .lsrZp d => Sys2Proof.Machine.execLsrZp d s
  | .lsrZpx d => Sys2Proof.Machine.execLsrZpx d s
  | .lsrAbs w => Sys2Proof.Machine.execLsrAbs w s
  | .lsrAbsx w => Sys2Proof.Machine.execLsrAbsx w s
  | .rolAcc => Sys2Proof.Machine.execRolAcc s
  | .rolZp d => Sys2Proof.Machine.execRolZp d s
  | .rolZpx d => Sys2Proof.Machine.execRolZpx d s
  | .rolAbs w => Sys2Proof.Machine.execRolAbs w s
  | .rolAbsx w => Sys2Proof.Machine.execRolAbsx w s
  | .rorAcc => Sys2Proof.Machine.execRorAcc s
  | .rorZp d => Sys2Proof.Machine.execRorZp d s
  | .rorZpx d => Sys2Proof.Machine.execRorZpx d s
  | .rorAbs w => Sys2Proof.Machine.execRorAbs w s
  | .rorAbsx w => Sys2Proof.Machine.execRorAbsx w s
  | .incZp d => Sys2Proof.Machine.execIncZp d s
  | .incZpx d => Sys2Proof.Machine.execIncZpx d s
  | .incAbs w => Sys2Proof.Machine.execIncAbs w s
  | .incAbsx w => Sys2Proof.Machine.execIncAbsx w s
  | .decZp d => Sys2Proof.Machine.execDecZp d s
  | .decZpx d => Sys2Proof.Machine.execDecZpx d s
  | .decAbs w => Sys2Proof.Machine.execDecAbs w s
  | .decAbsx w => Sys2Proof.Machine.execDecAbsx w s
  | .inx => Sys2Proof.Machine.execInx s
  | .iny => Sys2Proof.Machine.execIny s
  | .dex => Sys2Proof.Machine.execDex s
  | .dey => Sys2Proof.Machine.execDey s
  -- 44_control_transfer.md
  | .bcc d => Sys2Proof.Machine.execBcc d s
  | .bcs d => Sys2Proof.Machine.execBcs d s
  | .beq d => Sys2Proof.Machine.execBeq d s
  | .bne d => Sys2Proof.Machine.execBne d s
  | .bpl d => Sys2Proof.Machine.execBpl d s
  | .bmi d => Sys2Proof.Machine.execBmi d s
  | .bvc d => Sys2Proof.Machine.execBvc d s
  | .bvs d => Sys2Proof.Machine.execBvs d s
  | .jmpAbs w => Sys2Proof.Machine.execJmpAbs w s
  | .jmpInd w => Sys2Proof.Machine.execJmpInd w s
  | .jsr w => Sys2Proof.Machine.execJsr w s
  | .rts => Sys2Proof.Machine.execRts s
  -- 45_flags_system.md
  | .clc => Sys2Proof.Machine.execClc s
  | .sec => Sys2Proof.Machine.execSec s
  | .cli => Sys2Proof.Machine.execCli s
  | .sei => Sys2Proof.Machine.execSei s
  | .clv => Sys2Proof.Machine.execClv s
  | .cld => Sys2Proof.Machine.execCld s
  | .sed => Sys2Proof.Machine.execSed s
  | .nop => Sys2Proof.Machine.execNop s
  | .brk => Sys2Proof.Machine.execBrk s
  | .rti => Sys2Proof.Machine.execRti s
  -- 48_unofficial.md
  | .aac0B d => Sys2Proof.Machine.execAac0B d s
  | .aac2B d => Sys2Proof.Machine.execAac2B d s
  | .aaxZp d => Sys2Proof.Machine.execAaxZp d s
  | .aaxZpy d => Sys2Proof.Machine.execAaxZpy d s
  | .aaxAbs w => Sys2Proof.Machine.execAaxAbs w s
  | .aaxIndx d => Sys2Proof.Machine.execAaxIndx d s
  | .arr d => Sys2Proof.Machine.execArr d s

end Sys2Proof.Machine
end

