-- ==== Sys2Proof/Machine/Scheduler.lean ====
section
/-! DEFINITION. The Scheduler tick (38_fetch_execute.md R90, R91) and the system tick that composes it with the Timing
Unit (70_reset_and_hazards.md R298). -/

namespace Sys2Proof.Machine

/-- The bytes from which the instruction at `PC` is decoded: as many as the longest instruction takes. `Fetch` has no
side effect, so reading more of them than the instruction has is not observable (20_memory.md R45). -/
def fetchBytes (s : State) : List Byte := [fetch s.pc s, fetch (s.pc + 1#16) s, fetch (s.pc + 2#16) s]

/-- `ExecuteOne()` (R91): `exec` advances `PC` past the instruction, runs the handler and sets `wait` from its cost.
An opcode byte with no enabled row raises the fault of 60_exceptions.md R261. -/
def executeOne (s : State) : Host.Outcome State Fault Refusal :=
  match decode s.cfg.unofficial (fetchBytes s) with
  | .ok (i, _) => exec i s
  | .error _ => .next (raiseUnknownOpcode (fetch s.pc s) s)

/-- `CpuTick(irq)` (R90): interrupts are examined only at a boundary, NMI before IRQ (R97, 60_exceptions.md R271). -/
def cpuTick (irq : Bool) (s : State) : Host.Outcome State Fault Refusal :=
  if s.halted.isSome then .next s
  else if 0 < s.wait then .next (s.setWait (s.wait - 1))
  else if s.nmiPending then .next (nmiEntry s)
  else if irq && !s.p.i then .next (irqEntry s)
  else executeOne s

/-- The part of `SystemTick` after the Scheduler's call: a block that has just halted ticks the Timing Unit no more
(60_exceptions.md R262). -/
def ppuPhase (s : State) : State := if s.halted.isSome then s else ppuTicks s.cfg.ppuPerCpu s

/-- `SystemTick(irq)` (70_reset_and_hazards.md R298): the Scheduler first, then the Timing Unit `PPU_PER_CPU` times. -/
def systemTick (irq : Bool) (s : State) : Host.Outcome State Fault Refusal :=
  if s.halted.isSome then .next s
  else
    match cpuTick irq s with
    | .next t => .next (ppuPhase t)
    | .fault r => .fault r
    | .refused r => .refused r

end Sys2Proof.Machine
end

