-- ==== Sys2Proof/Machine/HostInterface.lean ====
section
/-! DEFINITION. What the host can do to the block: boot it, which loads both memories and stands before the first tick,
and then, one call a step, the system tick and the two resets (70_reset_and_hazards.md, 60_exceptions.md R285). -/

namespace Sys2Proof.Machine

/-- `RawWrite(a, 0x00)` for each address of a list (70_reset_and_hazards.md R290). -/
def zeroCells (addrs : List Word) (s : State) : State :=
  match addrs with
  | [] => s
  | a :: rest => zeroCells rest (rawWrite a 0x00#8 s)

/-- `CpuReset()` (R290). -/
def cpuReset (s : State) : State :=
  let t := zeroCells s.cfg.apuZeroSet s
  { t with
    a := 0x00#8
    x := 0x00#8
    y := 0x00#8
    sp := 0xFD#8
    p := s.cfg.pReset
    pc := word (fetch (resetVector + 1#16) t) (fetch resetVector t)
    wait := s.cfg.resetCost
    nmiPending := false
    halted := none }

/-- `PpuReset()` (R293): `vram` is left as it is. -/
def ppuReset (s : State) : State := s.setPpu { TimingUnit.reset with vram := s.ppu.vram }

/-- `write_block(addr, bytes)` (20_memory.md R44): raw writes at rising addresses that wrap at 0xFFFF. -/
def writeBlock (addr : Word) (bytes : List Byte) (s : State) : State :=
  match bytes with
  | [] => s
  | v :: rest => writeBlock (addr + 1#16) rest (rawWrite addr v s)

/-- `vram[i] <- bytes[0]`, `vram[i + 1] <- bytes[1]`, and so on (70_reset_and_hazards.md R296). -/
def loadVram (i : Nat) (bytes : List Byte) (s : State) : State :=
  match bytes with
  | [] => s
  | v :: rest => loadVram (i + 1) rest (s.setPpu { s.ppu with vram := s.ppu.vram.write i v })

/-- One call of the host after boot. None of them loads memory: the host writes `mem` and `vram` before reset only
(20_memory.md R62), and from the first tick on it acts only through the resets (60_exceptions.md R285, R294). -/
def runCall (c : HostCall) (s : State) : Host.Outcome State Fault Refusal :=
  match c with
  | .tick irq => systemTick irq s
  | .cpuReset => .next (cpuReset s)
  | .ppuReset => .next (ppuReset s)

/-- The host's next call: the oldest of `State.host`, or a system tick with `irq_line` false when none is listed
(10_state.md R27, log 1). -/
def nextCall (s : State) : Host.Outcome State Fault Refusal :=
  match s.host with
  | [] => systemTick false s
  | c :: rest => runCall c { s with host := rest }

/-- The mapper init of `Boot` (70_reset_and_hazards.md R296), the simplest fixed-bank case: the program at `0x8000`,
a second copy of a single 16 KB bank at `0xC000`, and the character data in `vram` from index 0. -/
def mapperInit (prg chr : List Byte) (s : State) : State :=
  let one := writeBlock 0x8000#16 prg s
  let both := if prg.length = 0x4000 then writeBlock 0xC000#16 prg one else one
  loadVram 0 chr both

/-- The state before boot: `mem <- mem0`, `vram <- vram0` (R292, R296), with the parameters and the calls of the run to
come. The two resets of `boot` write every other field. -/
def unbooted (mem0 vram0 : Memory) (cfg : Config) (calls : List HostCall) : State :=
  { State.reset with mem := mem0, ppu := { TimingUnit.reset with vram := vram0 }, cfg := cfg, host := calls }

/-- The images R296 describes: one or two 16 KB banks of program, and character data that `vram` can hold (log 9). -/
abbrev imageFits (prg chr : List Byte) : Prop :=
  (prg.length = 0x4000 ∨ prg.length = 0x8000) ∧ chr.length ≤ 0x4000

/-- `Boot(prg, chr, mem0, vram0)` (R296) up to the first tick. It is no step and takes no running state: it builds the
state the steps start from, and it is the only place where the host writes `mem` and `vram` (20_memory.md R62). Any
other image is malformed and rejected (93_implementation_defined.md U22, log 9). -/
def boot (prg chr : List Byte) (mem0 vram0 : Memory) (cfg : Config) (calls : List HostCall) :
    Host.Outcome State Fault Refusal :=
  if imageFits prg chr then
    .next (ppuReset (cpuReset (mapperInit prg chr (unbooted mem0 vram0 cfg calls))))
  else .refused .malformedImage

end Sys2Proof.Machine
end

