-- ==== Sys2Proof/Machine/Step.lean ====
section
/-! DEFINITION. The step of the booted block: one call of the host, by default one system tick
(70_reset_and_hazards.md R298, log 1). -/

namespace Sys2Proof.Machine

/-- One step. -/
def step (s : State) : Host.Outcome State Fault Refusal := nextCall s

/-- `s` with the instruction whose bits are `w` stored at `PC` and the block at an instruction boundary that takes no
interrupt, so that the very next step is a system tick that runs it (log 10): the wait counter at 0, no halt record, no
pending NMI, a tick with `irq_line` false as the next call, and the option `UNOFFICIAL` on if the opcode needs it. It builds a state to start from; it is no call of the host. -/
def State.withFetchWord (s : State) (nbits w : Nat) : State :=
  let needsOption := match decodeTableWord nbits w with
    | some i => i.optional
    | none => false
  { writeBlock s.pc (tableBytes nbits w) s with
    wait := 0
    halted := none
    nmiPending := false
    host := .tick false :: s.host
    cfg := { s.cfg with unofficial := s.cfg.unofficial || needsOption } }

end Sys2Proof.Machine
end

