-- ==== Sys2Proof/Safety.lean ====
section
/-! DEFINITION. What claims call a running machine, a well-formed state, and a state whose next step executes an instruction. -/

namespace Sys2Proof.Machine

/-- Safe: the unknown-opcode fault has not halted the block (60_exceptions.md R262). -/
abbrev State.running (s : State) : Prop := s.halted = none

/-- The two arrays are in canonical form and lie inside their spaces (10_state.md R28, R32), and the Timing Unit's
status register has only the vblank bit (R30: bits 6 and 5 are never set by the block, bits 4 to 0 are always 0). -/
abbrev State.wf (s : State) : Prop :=
  s.mem.wf ∧ s.mem.within 0x10000 ∧ s.ppu.vram.wf ∧ s.ppu.vram.within 0x4000 ∧
    (s.ppu.status = 0x00#8 ∨ s.ppu.status = 0x80#8)

/-- The level of `irq_line` at the next step, if the next step is a system tick; `none` if the host calls something else
(10_state.md R27). -/
def State.nextIrq (s : State) : Option Bool :=
  match s.host with
  | [] => some false
  | .tick irq :: _ => some irq
  | _ :: _ => none

/-- The state with the host's next call taken off the list. -/
def State.afterCall (s : State) : State := { s with host := s.host.tail }

/-- The next step is a system tick of a running block at an instruction boundary that takes no interrupt, so it
executes one instruction (38_fetch_execute.md R90). -/
abbrev State.executes (s : State) : Prop :=
  s.halted = none ∧ s.wait = 0 ∧ s.nmiPending = false ∧
    (s.nextIrq = some false ∨ (s.nextIrq = some true ∧ s.p.i = true))

end Sys2Proof.Machine
end

