-- ==== Sys2Proof/Certificates/Slice0/Obligations.lean ====
section
/-! DEFINITION. The statements for the provers, and the predicates they are written with. A predicate that describes an
instruction equates `exec i s` with the WHOLE next state, written as an update of `s`: a field that is not named is
unchanged. Memory is compared cell by cell through `rawRead`. -/

open Sys2Proof Sys2Proof.Machine

/-! ## Predicates -/

/-- `i` takes `len` bytes, reads its operand in form `m` (its value and what the read does to the Timing Unit are those
of `readOperand`) and leaves `upd value`; `wait` is the cost less one, with one more when the row is penalised and the
resolver reports a page cross. -/
def Sys2Proof.Claims.Reads (i : Instr) (m : Operand) (len cost : Nat) (penalised : Bool) (upd : Byte → State → State)
    (s : State) : Prop :=
  exec i s = .next (upd (readOperand m s).1
    { s with
      pc := s.pc + BitVec.ofNat 16 len
      wait := cost - 1 + (if penalised && (resolve m s).2 then 1 else 0)
      ppu := (readOperand m s).2.ppu })

/-- Memory differs at most in the cell of `ea`, which holds `v`. -/
def Sys2Proof.Claims.StoredAt (ea : Word) (v : Byte) (s t : State) : Prop :=
  rawRead ea t = v ∧ ∀ a : Word, mirror a ≠ mirror ea → rawRead a t = rawRead a s

/-- `i` takes `len` bytes and stores `v` at the effective address of form `m`, with the window effect of the address;
nothing else changes but `pc` and `wait`. -/
def Sys2Proof.Claims.Stores (i : Instr) (m : Operand) (len cost : Nat) (v : Byte) (s : State) : Prop :=
  ∃ t, exec i s = .next t ∧ Sys2Proof.Claims.StoredAt (resolve m s).1 v s t ∧
    t = { s with
      pc := s.pc + BitVec.ofNat 16 len
      wait := cost - 1
      mem := t.mem
      ppu := windowWrite (mirror (resolve m s).1) v s.ppu }

/-- `i` reads the byte at the effective address of form `m` once, stores `res byte carry` there once, and leaves the
flags `fl byte (res byte carry)`. -/
def Sys2Proof.Claims.Modifies (i : Instr) (m : Operand) (len cost : Nat) (res : Byte → Bool → Byte)
    (fl : Byte → Byte → Flags → Flags) (s : State) : Prop :=
  let ea := (resolve m s).1
  let v := (memRead ea s).1
  let r := res v s.p.c
  ∃ t, exec i s = .next t ∧ Sys2Proof.Claims.StoredAt ea r s t ∧
    t = { s with
      p := fl v r s.p
      pc := s.pc + BitVec.ofNat 16 len
      wait := cost - 1
      mem := t.mem
      ppu := windowWrite (mirror ea) r (memRead ea s).2.ppu }

/-- `i` does the same to `A` and touches no memory. -/
def Sys2Proof.Claims.ModifiesA (i : Instr) (cost : Nat) (res : Byte → Bool → Byte) (fl : Byte → Byte → Flags → Flags)
    (s : State) : Prop :=
  exec i s = .next { s with
    a := res s.a s.p.c
    p := fl s.a (res s.a s.p.c) s.p
    pc := s.pc + 1#16
    wait := cost - 1 }

/-- A two-byte branch on `cond`: not taken it costs 2, taken 3, taken to another page than that of the next instruction
4 (44_control_transfer.md R180). -/
def Sys2Proof.Claims.Branches (i : Instr) (cond : Prop) (d : Byte) (s : State) : Prop :=
  (¬cond → exec i s = .next { s with pc := s.pc + 2#16, wait := 1 }) ∧
  (cond →
    exec i s = .next { s with
      pc := BitVec.ofInt 16 (s.pc.toNat + 2 + d.toInt)
      wait := if page (BitVec.ofInt 16 (s.pc.toNat + 2 + d.toInt)) = page (s.pc + 2#16) then 2 else 3 })

/-- Exception entry from `s` to `t`: return address and status copy on the stack, I set, `pc` at the vector. -/
def Sys2Proof.Claims.Enters (ret : Word) (copyB : Bool) (vector : Word) (s t : State) : Prop :=
  rawRead (word 0x01#8 s.sp) t = hiByte ret ∧
  rawRead (word 0x01#8 (s.sp - 1#8)) t = loByte ret ∧
  rawRead (word 0x01#8 (s.sp - 2#8)) t = pByte s.p copyB ∧
  (∀ a : Word, mirror a ≠ word 0x01#8 s.sp → mirror a ≠ word 0x01#8 (s.sp - 1#8) →
    mirror a ≠ word 0x01#8 (s.sp - 2#8) → rawRead a t = rawRead a s) ∧
  t = { s with
    sp := s.sp - 3#8
    p := { s.p with i := true }
    pc := word (rawRead (vector + 1#16) s) (rawRead vector s)
    wait := s.cfg.intCost - 1
    mem := t.mem }

/-- The 105 undefined opcode bytes of 30_encoding.md R78. -/
def Sys2Proof.Claims.undefinedBytes : List Byte :=
  [0x02#8, 0x03#8, 0x04#8, 0x07#8, 0x0B#8, 0x0C#8, 0x0F#8, 0x12#8, 0x13#8, 0x14#8, 0x17#8, 0x1A#8,
   0x1B#8, 0x1C#8, 0x1F#8, 0x22#8, 0x23#8, 0x27#8, 0x2B#8, 0x2F#8, 0x32#8, 0x33#8, 0x34#8, 0x37#8,
   0x3A#8, 0x3B#8, 0x3C#8, 0x3F#8, 0x42#8, 0x43#8, 0x44#8, 0x47#8, 0x4B#8, 0x4F#8, 0x52#8] ++
  [0x53#8, 0x54#8, 0x57#8, 0x5A#8, 0x5B#8, 0x5C#8, 0x5F#8, 0x62#8, 0x63#8, 0x64#8, 0x67#8, 0x6B#8,
   0x6F#8, 0x72#8, 0x73#8, 0x74#8, 0x77#8, 0x7A#8, 0x7B#8, 0x7C#8, 0x7F#8, 0x80#8, 0x82#8, 0x83#8,
   0x87#8, 0x89#8, 0x8B#8, 0x8F#8, 0x92#8, 0x93#8, 0x97#8, 0x9B#8, 0x9C#8, 0x9E#8, 0x9F#8] ++
  [0xA3#8, 0xA7#8, 0xAB#8, 0xAF#8, 0xB2#8, 0xB3#8, 0xB7#8, 0xBB#8, 0xBF#8, 0xC2#8, 0xC3#8, 0xC7#8,
   0xCB#8, 0xCF#8, 0xD2#8, 0xD3#8, 0xD4#8, 0xD7#8, 0xDA#8, 0xDB#8, 0xDC#8, 0xDF#8, 0xE2#8, 0xE3#8,
   0xE7#8, 0xEB#8, 0xEF#8, 0xF2#8, 0xF3#8, 0xF4#8, 0xF7#8, 0xFA#8, 0xFB#8, 0xFC#8, 0xFF#8]

/-- The seven of them that `UNOFFICIAL` gives a meaning (30_encoding.md R79). -/
def Sys2Proof.Claims.optionalBytes : List Byte :=
  [0x0B#8, 0x2B#8, 0x6B#8, 0x83#8, 0x87#8, 0x8F#8, 0x97#8]

/-- Position in the frame, in dots from `(0, 0)` (50_timing_unit.md R230). -/
def Sys2Proof.Claims.dot (u : TimingUnit) : Nat := u.scanline.val * 341 + u.cycle.val

/-- `s` with another decimal flag. -/
def Sys2Proof.Claims.withD (d : Bool) (s : State) : State := { s with p := { s.p with d := d } }

/-- `s` with another mask register and frame parity. -/
def Sys2Proof.Claims.withMaskOdd (mask : Byte) (odd : Bool) (s : State) : State :=
  { s with ppu := { s.ppu with mask := mask, odd := odd } }

open Sys2Proof.Claims

/-! ## Statements -/

/-- For every setting of UNOFFICIAL, every well-formed instruction i and every list of bytes after it, decoding encode i
followed by those bytes answers i and those bytes. Spec's own decisions it rests on (log 7): D1 (opcode bytes and the
forms each instruction has), D3 (the optional instructions), D37 (the forms outside the resolver). The model's own
choices it is written with: log 3 (DESIGN CHOICE: UNOFFICIAL is read by the decoder only). Basis: 30_encoding.md
sections 1, 3, 4 and 6; 92_eei_decisions.md D1, D3, D37. -/
def Obligations.DecodeOfEncodeIsTheInstruction : Prop :=
  ∀ (u : Bool) (i : Instr) (rest : List Byte),
    i.wellFormed u = true → decode u (encode i ++ rest) = .ok (i, rest)

/-- If decoding a list of bytes answers i and a rest, then i is well-formed under that setting of UNOFFICIAL and the list
is encode i followed by the rest: no two encodings give one instruction. Spec's own decisions it rests on (log 7): D1
(opcode bytes and the forms each instruction has), D3 (the optional instructions), D37 (the forms outside the
resolver). The model's own choices it is written with: log 3 (DESIGN CHOICE: UNOFFICIAL is read by the decoder only).
Basis: 30_encoding.md sections 1, 3, 4 and 6; 92_eei_decisions.md D1, D3, D37. -/
def Obligations.EncodeOfDecodeIsTheBytes : Prop :=
  ∀ (u : Bool) (bytes : List Byte) (i : Instr) (rest : List Byte),
    decode u bytes = .ok (i, rest) → i.wellFormed u = true ∧ bytes = encode i ++ rest

/-- With UNOFFICIAL false the decoder rejects an opcode byte as unknown exactly when it is one of the 105 bytes listed in
30_encoding.md section 4; with UNOFFICIAL true exactly when it is one of those and not one of the seven of AAC, AAX,
ARR; and whatever operand bytes follow make no difference. Spec's own decisions it rests on (log 7): D1 (opcode bytes
and the forms each instruction has), D3 (the optional instructions). The model's own choices it is written with: log 3
(DESIGN CHOICE: UNOFFICIAL is read by the decoder only). Basis: 30_encoding.md section 4; 92_eei_decisions.md D1, D3. -/
def Obligations.UndefinedOpcodesAreThe105 : Prop :=
  ∀ op b1 b2 : Byte,
    (decode false [op, b1, b2] = .error (.unknownOpcode op) ↔ op ∈ undefinedBytes) ∧
    (decode true [op, b1, b2] = .error (.unknownOpcode op) ↔ op ∈ undefinedBytes ∧ op ∉ optionalBytes)

/-- One or more words of every family, written from the opcode map of 30_encoding.md, decode to their instructions: LDA
zp,X; STA (zp),Y; JSR; JMP indirect; BNE; ROR abs,X; PHP; BRK; CMP immediate; AAX zp,Y. The last word decodes because
decodeTableWord has UNOFFICIAL on (log 3, DESIGN CHOICE); R79 gives byte 97 a meaning only then. Spec's own decisions
it rests on (log 7): D1 (opcode bytes and the forms each instruction has), D3 (the optional instructions), D37 (the
forms outside the resolver). Basis: 30_encoding.md section 3; 48_unofficial.md; 92_eei_decisions.md D1, D3, D37. -/
def Obligations.SpecWordsDecodeToTheirInstructions : Prop :=
  decodeTableWord 16 0x5AB5 = some (.ldaZpx 0x5A#8) ∧
  decodeTableWord 16 0x5A91 = some (.staIndy 0x5A#8) ∧
  decodeTableWord 24 0x123420 = some (.jsr 0x1234#16) ∧
  decodeTableWord 24 0x02FF6C = some (.jmpInd 0x02FF#16) ∧
  decodeTableWord 16 0xFBD0 = some (.bne 0xFB#8) ∧
  decodeTableWord 24 0x02FF7E = some (.rorAbsx 0x02FF#16) ∧
  decodeTableWord 8 0x08 = some .php ∧
  decodeTableWord 8 0x00 = some .brk ∧
  decodeTableWord 16 0x41C9 = some (.cmpImm 0x41#8) ∧
  decodeTableWord 16 0x1097 = some (.aaxZpy 0x10#8)

/-- If the next call is a system tick of a running block with wait 0, no pending NMI and no unmasked IRQ, and the bytes at
PC decode to i, then step is exec i on the state with that call taken off the list, followed by PPU_PER_CPU Timing
Unit ticks (none if the block has halted); a fault or refusal of exec would be the step's. Spec's own decisions it
rests on (log 7): D10 (interrupts examined at a boundary only), D11 (the nmi_pending latch, NMI before IRQ), D14
(fetch past the bridge), D25 (the Scheduler before the Timing Unit in a tick), D31 (irq_line a level input), D39
(irq_line sampled at a boundary only), D45 (the Timing Unit runs while the CPU waits and stops at a halt). The model's
own choices it is written with: log 1 (DESIGN CHOICE: a step is one call of the host, and the calls stand in
State.host); log 2 (DESIGN CHOICE: the parameters stand in State.cfg); log 3 (DESIGN CHOICE: UNOFFICIAL is read by the
decoder only); log 6 (DEDUCED: a halt and the ticks after it are next states). Basis: 38_fetch_execute.md (R90, R91);
70_reset_and_hazards.md section 3 (R298); 92_eei_decisions.md D10, D11, D14, D25, D31, D39, D45. -/
def Obligations.StepRunsTheDecodedInstruction : Prop :=
  ∀ (s : State) (i : Instr) (rest : List Byte),
    s.executes →
    decode s.cfg.unofficial [fetch s.pc s, fetch (s.pc + 1#16) s, fetch (s.pc + 2#16) s] = .ok (i, rest) →
    step s =
      match exec i s.afterCall with
      | .next t => .next (if t.halted.isSome then t else ppuTicks t.cfg.ppuPerCpu t)
      | .fault r => .fault r
      | .refused r => .refused r

/-- If the block is about to execute and the cells from PC on hold the encoding of a well-formed instruction i (addresses
reduced mod 0x10000 and mapped), then exec i answers a next state t and the step answers t after PPU_PER_CPU Timing
Unit ticks. PPU_PER_CPU is a parameter of the run, held in State.cfg by the model's own choice (log 2). Spec's own
decisions it rests on (log 7): D1 (opcode bytes and the forms each instruction has), D3 (the optional instructions),
D10 (interrupts examined at a boundary only), D11 (the nmi_pending latch, NMI before IRQ), D14 (fetch past the
bridge), D25 (the Scheduler before the Timing Unit in a tick), D31 (irq_line a level input), D39 (irq_line sampled at
a boundary only), D45 (the Timing Unit runs while the CPU waits and stops at a halt). The model's own choices it is
written with: log 1 (DESIGN CHOICE: a step is one call of the host, and the calls stand in State.host); log 3 (DESIGN
CHOICE: UNOFFICIAL is read by the decoder only). Basis: 38_fetch_execute.md (R90 to R93); 30_encoding.md section 1;
70_reset_and_hazards.md section 3; 92_eei_decisions.md D1, D3, D10, D11, D14, D25, D31, D39, D45. -/
def Obligations.StepExecutesEveryEncodedInstruction : Prop :=
  ∀ (s : State) (i : Instr),
    s.executes → i.wellFormed s.cfg.unofficial = true →
    (∀ k < i.length, fetch (s.pc + BitVec.ofNat 16 k) s = (encode i).getD k 0x00#8) →
    ∃ t, exec i s.afterCall = .next t ∧ t.halted = none ∧ step s = .next (ppuTicks t.cfg.ppuPerCpu t)

/-- If the block is about to execute and the byte at PC is one of the undefined bytes (with UNOFFICIAL, not one of the
seven optional ones), the step answers the state with PC advanced by one and halted set to the byte and its address;
every register, flag, cell, counter and wait is unchanged and the Timing Unit does not tick. Spec's own decisions it
rests on (log 7): D1 (opcode bytes and the forms each instruction has), D3 (the optional instructions), D10
(interrupts examined at a boundary only), D11 (the nmi_pending latch, NMI before IRQ), D14 (fetch past the bridge),
D26 (the form of the fault record and its end at reset), D31 (irq_line a level input), D39 (irq_line sampled at a
boundary only), D45 (the Timing Unit runs while the CPU waits and stops at a halt). The model's own choices it is
written with: log 1 (DESIGN CHOICE: a step is one call of the host, and the calls stand in State.host); log 2 (DESIGN
CHOICE: the parameters stand in State.cfg); log 3 (DESIGN CHOICE: UNOFFICIAL is read by the decoder only); log 6
(DEDUCED: a halt and the ticks after it are next states). Basis: 60_exceptions.md section 2 (R261);
92_eei_decisions.md D1, D3, D10, D11, D14, D26, D31, D39, D45. -/
def Obligations.UnknownOpcodeHaltsTheBlock : Prop :=
  ∀ s : State,
    s.executes → fetch s.pc s ∈ undefinedBytes →
    (s.cfg.unofficial = true → fetch s.pc s ∉ optionalBytes) →
    step s = .next { s.afterCall with
      pc := s.pc + 1#16
      halted := some { op := fetch s.pc s, pc := s.pc } }

/-- If the block is halted, a system tick at any IRQ level answers the same state with only the host's call taken off the
list; and whatever the host's next call, a step keeps the halt record, the registers, flags, wait, PC, nmi_pending and
every cell of memory unless that call is CpuReset. Spec's own decisions it rests on (log 7): D24 (the Timing Unit
reset values), D26 (the form of the fault record and its end at reset), D40 (reset clears nmi_pending and halted), D45
(the Timing Unit runs while the CPU waits and stops at a halt). The model's own choices it is written with: log 1
(DESIGN CHOICE: a step is one call of the host, and the calls stand in State.host); log 6 (DEDUCED: a halt and the
ticks after it are next states). Basis: 60_exceptions.md section 2 (R262); 92_eei_decisions.md D24, D26, D40, D45. -/
def Obligations.OnlyCpuResetLeavesTheHaltedState : Prop :=
  ∀ (s : State) (h : UnknownOpcode), s.halted = some h →
    (s.nextIrq ≠ none → step s = .next s.afterCall) ∧
    (∀ t, step s = .next t → s.host.head? ≠ some .cpuReset →
      t = { s.afterCall with ppu := t.ppu }) ∧
    (∀ rest, s.host = .cpuReset :: rest → ∃ t, step s = .next t ∧ t.halted = none)

/-- If the block is running and wait is not 0, a system tick decrements wait, examines neither the IRQ level nor
nmi_pending, and then ticks the Timing Unit PPU_PER_CPU times. Spec's own decisions it rests on (log 7): D10
(interrupts examined at a boundary only), D11 (the nmi_pending latch, NMI before IRQ), D25 (the Scheduler before the
Timing Unit in a tick), D31 (irq_line a level input), D39 (irq_line sampled at a boundary only), D45 (the Timing Unit
runs while the CPU waits and stops at a halt). The model's own choices it is written with: log 1 (DESIGN CHOICE: a
step is one call of the host, and the calls stand in State.host); log 2 (DESIGN CHOICE: the parameters stand in
State.cfg). Basis: 38_fetch_execute.md (R90, R92, R97); 70_reset_and_hazards.md section 3 (R299); 92_eei_decisions.md
D10, D11, D25, D31, D39, D45. -/
def Obligations.WaitingTickOnlyCountsDown : Prop :=
  ∀ (s : State) (irq : Bool),
    s.halted = none → 0 < s.wait → s.nextIrq = some irq →
    step s = .next (ppuTicks s.cfg.ppuPerCpu { s.afterCall with wait := s.wait - 1 })

/-- If the block is running with wait 0 and nmi_pending set, then whatever the IRQ level and the I flag are, the step
clears the latch, pushes PC (high byte first) and the status copy with bit 4 = 0, sets I, loads PC from 0xFFFA, sets
wait to INT_COST - 1, changes no other register, flag or cell, and then ticks the Timing Unit. Spec's own decisions it
rests on (log 7): D4 (bits 4 and 5 of a status copy), D9 (the cost of an entry), D10 (interrupts examined at a
boundary only), D11 (the nmi_pending latch, NMI before IRQ), D25 (the Scheduler before the Timing Unit in a tick), D31
(irq_line a level input), D32 (the bit order of the status byte), D41 (the access path of pointers and vectors), D42
(an entry keeps D), D43 (the access path of the stack), D45 (the Timing Unit runs while the CPU waits and stops at a
halt). The model's own choices it is written with: log 1 (DESIGN CHOICE: a step is one call of the host, and the calls
stand in State.host); log 2 (DESIGN CHOICE: the parameters stand in State.cfg); log 4 (DESIGN CHOICE: the canonical
form of memory, a hypothesis that shuts out no contents). Basis: 60_exceptions.md section 4 (R267, R271);
92_eei_decisions.md D4, D9, D10, D11, D25, D31, D32, D41, D42, D43, D45. -/
def Obligations.NmiEntryAtTheBoundary : Prop :=
  ∀ (s : State) (irq : Bool),
    s.wf → s.halted = none → s.wait = 0 → s.nmiPending = true → s.nextIrq = some irq →
    ∃ t, Enters s.pc false 0xFFFA#16 { s.afterCall with nmiPending := false } t ∧
      step s = .next (ppuTicks s.cfg.ppuPerCpu t)

/-- If the block is running with wait 0, no NMI pending, the IRQ line true at this tick and I clear, the step pushes PC
and the status copy with bit 4 = 0, sets I, loads PC from 0xFFFE, sets wait to INT_COST - 1, changes nothing else, and
then ticks the Timing Unit. Spec's own decisions it rests on (log 7): D4 (bits 4 and 5 of a status copy), D9 (the cost
of an entry), D10 (interrupts examined at a boundary only), D11 (the nmi_pending latch, NMI before IRQ), D25 (the
Scheduler before the Timing Unit in a tick), D31 (irq_line a level input), D32 (the bit order of the status byte), D34
(no delay of a change of I), D39 (irq_line sampled at a boundary only), D41 (the access path of pointers and vectors),
D42 (an entry keeps D), D43 (the access path of the stack), D45 (the Timing Unit runs while the CPU waits and stops at
a halt). The model's own choices it is written with: log 1 (DESIGN CHOICE: a step is one call of the host, and the
calls stand in State.host); log 2 (DESIGN CHOICE: the parameters stand in State.cfg); log 4 (DESIGN CHOICE: the
canonical form of memory, a hypothesis that shuts out no contents). Basis: 60_exceptions.md section 4 (R266, R268,
R270); 92_eei_decisions.md D4, D9, D10, D11, D25, D31, D32, D34, D39, D41, D42, D43, D45. -/
def Obligations.IrqEntryAtTheBoundary : Prop :=
  ∀ s : State,
    s.wf → s.halted = none → s.wait = 0 → s.nmiPending = false → s.nextIrq = some true → s.p.i = false →
    ∃ t, Enters s.pc false 0xFFFE#16 s.afterCall t ∧ step s = .next (ppuTicks s.cfg.ppuPerCpu t)

/-- For every state with memory in canonical form, every return address, either value of the B copy and every vector, the
return applied right after the entry gives PC the return address, gives back all six flags and SP, and leaves A, X, Y
and every cell outside the stack's three bytes as they were. Spec's own decisions it rests on (log 7): D4 (bits 4 and
5 of a status copy), D32 (the bit order of the status byte), D35 (instructions the source never names), D36 (bits 4
and 5 in PHP, PLP and RTI), D41 (the access path of pointers and vectors), D42 (an entry keeps D), D43 (the access
path of the stack). The model's own choices it is written with: log 4 (DESIGN CHOICE: the canonical form of memory, a
hypothesis that shuts out no contents). Basis: 60_exceptions.md section 4 (R272, R273); 45_flags_system.md section 3;
92_eei_decisions.md D4, D32, D35, D36, D41, D42, D43. -/
def Obligations.ReturnUndoesAnEntry : Prop :=
  ∀ (s : State) (ret vector : Word) (b : Bool), s.mem.wf →
    (returnFromException (enterException ret b vector s)).pc = ret ∧
    (returnFromException (enterException ret b vector s)).p = s.p ∧
    (returnFromException (enterException ret b vector s)).sp = s.sp ∧
    (returnFromException (enterException ret b vector s)).a = s.a ∧
    (returnFromException (enterException ret b vector s)).x = s.x ∧
    (returnFromException (enterException ret b vector s)).y = s.y ∧
    ∀ a : Word, mirror a ≠ word 0x01#8 s.sp → mirror a ≠ word 0x01#8 (s.sp - 1#8) →
      mirror a ≠ word 0x01#8 (s.sp - 2#8) →
      rawRead a (returnFromException (enterException ret b vector s)) = rawRead a s

/-- For every state step answers a next state: no instruction, operand, address, interrupt or reset makes it a fault or a
refusal. That the unknown-opcode fault and the ticks of a halted block are next states, and that Fault has no
constructor, is the model's choice (log 6, DEDUCED); R261 and R262 give the state, the spec has no host outcome. Boot
refuses exactly the images that are not one or two 16 KB banks of program with at most 0x4000 bytes of character data;
that it refuses them, under that name, is the model's choice (log 9, DEDUCED). Spec's own decisions it rests on (log
7): D26 (the form of the fault record and its end at reset), D45 (the Timing Unit runs while the CPU waits and stops
at a halt). The model's own choices it is written with: log 1 (DESIGN CHOICE: a step is one call of the host, and the
calls stand in State.host); log 2 (DESIGN CHOICE: the parameters stand in State.cfg). Basis: 60_exceptions.md sections
1 and 2 (R261, R262); 20_memory.md section 2 (R42); 93_implementation_defined.md U22; 92_eei_decisions.md D26, D45. -/
def Obligations.StepAlwaysAnswersANextState : Prop :=
  (∀ s : State, ∃ t, step s = .next t) ∧
  (∀ (prg chr : List Byte) (mem0 vram0 : Memory) (cfg : Config) (calls : List HostCall),
    boot prg chr mem0 vram0 cfg calls = .refused .malformedImage ↔
      ¬((prg.length = 0x4000 ∨ prg.length = 0x8000) ∧ chr.length ≤ 0x4000))

/-- If both arrays are in canonical form with every index inside their spaces and the status register is 0x00 or 0x80
(bits 6 and 5 never set, bits 4 to 0 always 0), the same holds of any state a step answers. The canonical form is the
model's own (log 4). Spec's own decisions it rests on (log 7): D16 (the array cell behind the window), D18 (the size
of video memory and its pointer), D22 (the latches cleared on line 261), D30 (the bits of ctrl and status). The
model's own choices it is written with: log 1 (DESIGN CHOICE: a step is one call of the host, and the calls stand in
State.host). Basis: 10_state.md sections 5 and 6 (R28, R30, R32); 20_memory.md section 2; 92_eei_decisions.md D16,
D18, D22, D30. -/
def Obligations.StepKeepsWellFormedStates : Prop :=
  ∀ s t : State, s.wf → step s = .next t → t.wf

/-- State.reset is well formed; A = X = Y = 0, SP = 0xFD, the status reads 0x24, wait = 8, nothing halted or pending,
every Timing Unit counter, register and latch is 0, and PC is the word in the reset vector's two cells, which with
nothing listed is 0x0000 (log 5). Spec's own decisions it rests on (log 7): D4 (bits 4 and 5 of a status copy), D5
(the flags after reset), D6 (wait after reset), D24 (the Timing Unit reset values), D28 (the contents before reset),
D32 (the bit order of the status byte), D40 (reset clears nmi_pending and halted). The model's own choices it is
written with: log 4 (DESIGN CHOICE: the canonical form of memory). Basis: 10_state.md section 8; 92_eei_decisions.md
D4, D5, D6, D24, D28, D32, D40. -/
def Obligations.ResetStateIsWellFormed : Prop :=
  State.reset.wf ∧ State.reset.running ∧
  State.reset.a = 0x00#8 ∧ State.reset.x = 0x00#8 ∧ State.reset.y = 0x00#8 ∧ State.reset.sp = 0xFD#8 ∧
  pByte State.reset.p false = 0x24#8 ∧ State.reset.wait = 8 ∧ State.reset.nmiPending = false ∧
  State.reset.pc = word (rawRead 0xFFFD#16 State.reset) (rawRead 0xFFFC#16 State.reset) ∧
  State.reset.ppu = TimingUnit.reset ∧ dot State.reset.ppu = 0 ∧ State.reset.ppu.odd = false ∧
  State.reset.ppu.ctrl = 0x00#8 ∧ State.reset.ppu.mask = 0x00#8 ∧ State.reset.ppu.status = 0x00#8 ∧
  State.reset.ppu.w = false ∧ State.reset.ppu.ptr = 0#14 ∧ State.reset.ppu.buf = 0x00#8

/-- For every state and every step to a next state, the cells 0x0800 to 0x1FFF and 0x2008 to 0x3FFF of the array hold
after it what they held before: no path, neither instruction nor interrupt nor reset, indexes the array with an
unmapped address. Spec's own decisions it rests on (log 7): D16 (the array cell behind the window). The model's own
choices it is written with: log 1 (DESIGN CHOICE: a step is one call of the host, and the calls stand in State.host).
Basis: 20_memory.md section 2 (R42); 10_state.md section 5; 92_eei_decisions.md D16. -/
def Obligations.MirrorCellsAreNeverWritten : Prop :=
  ∀ s t : State, step s = .next t →
    ∀ k : Nat, (0x0800 ≤ k ∧ k < 0x2000) ∨ (0x2008 ≤ k ∧ k < 0x4000) → t.mem.read k = s.mem.read k

/-- Every step to a next state keeps cfg and takes one call off the list of host calls. That the parameters and the calls
are held in State is the model's own choice (logs 1 and 2). Basis: 10_state.md section 7 (R33); 00_scope.md section 4. -/
def Obligations.ParametersNeverChange : Prop :=
  ∀ s t : State, step s = .next t → t.cfg = s.cfg ∧ t.host = s.host.tail

/-- If the parameters have the spec's values and wait is at most 8, it is at most 8 after any step; and a step that
executes an instruction without halting leaves it between 1 and 6, that is, every instruction costs 2 to 7 ticks.
Spec's own decisions it rests on (log 7): D2 (costs and page-cross rows), D3 (the optional instructions), D6 (wait
after reset), D9 (the cost of an entry), D10 (interrupts examined at a boundary only). The model's own choices it is
written with: log 1 (DESIGN CHOICE: a step is one call of the host, and the calls stand in State.host); log 2 (DESIGN
CHOICE: the parameters stand in State.cfg); log 6 (DEDUCED: a halt and the ticks after it are next states). Basis:
10_state.md section 4 (R24); 38_fetch_execute.md (R95); 92_eei_decisions.md D2, D3, D6, D9, D10. -/
def Obligations.WaitStaysWithinEight : Prop :=
  ∀ s t : State, s.cfg = Config.default → s.wait ≤ 8 → step s = .next t →
    t.wait ≤ 8 ∧ (s.executes → t.halted = none → 1 ≤ t.wait ∧ t.wait ≤ 6)

/-- If a system tick of a running block answers a state that is still running, the Timing Unit's position in the frame of
89,342 dots has advanced by PPU_PER_CPU: an instruction, an interrupt entry and a waiting tick all take the same
Timing Unit time, and no instruction can move the counters. Spec's own decisions it rests on (log 7): D21 (262 lines),
D23 (no short frame, so nothing reads odd), D25 (the Scheduler before the Timing Unit in a tick), D45 (the Timing Unit
runs while the CPU waits and stops at a halt). The model's own choices it is written with: log 1 (DESIGN CHOICE: a
step is one call of the host, and the calls stand in State.host); log 2 (DESIGN CHOICE: the parameters stand in
State.cfg); log 6 (DEDUCED: a halt and the ticks after it are next states). Basis: 70_reset_and_hazards.md section 3
(R298, R299); 50_timing_unit.md section 1 (R230, R233); 92_eei_decisions.md D21, D23, D25, D45. -/
def Obligations.TimingUnitAdvancesEveryTick : Prop :=
  ∀ (s t : State) (irq : Bool), s.nextIrq = some irq → s.halted = none → step s = .next t → t.halted = none →
    dot t.ppu = (dot s.ppu + s.cfg.ppuPerCpu) % 89342

/-- From any state with the counters at (0, 0), n ticks leave cycle = n mod 341, scanline = (n div 341) mod 262 and odd
flipped exactly when n div 89342 is odd: every frame has the same length. Spec's own decisions it rests on (log 7):
D21 (262 lines), D23 (no short frame, so nothing reads odd). Basis: 50_timing_unit.md section 1 (R233, R234);
92_eei_decisions.md D21, D23. -/
def Obligations.CountersAfterAnyNumberOfTicks : Prop :=
  ∀ (n : Nat) (s : State), s.ppu.cycle = 0 → s.ppu.scanline = 0 →
    (ppuTicks n s).ppu.cycle.val = n % 341 ∧
    (ppuTicks n s).ppu.scanline.val = (n / 341) % 262 ∧
    (ppuTicks n s).ppu.odd = (s.ppu.odd ^^ decide ((n / 89342) % 2 = 1))

/-- From (0, 0) with status 0x00 and the events at dot 0, and no CPU activity, after n ticks the status is 0x80 exactly
when n mod 89342 lies in 82,182 to 89,001, and nmi_pending has been set exactly if bit 7 of ctrl is 1 and n is at
least 82,182. Spec's own decisions it rests on (log 7): D11 (the nmi_pending latch, NMI before IRQ), D20 (the dot of
the vblank events), D21 (262 lines), D22 (the latches cleared on line 261), D23 (no short frame, so nothing reads
odd), D30 (the bits of ctrl and status), D33 (no NMI but from the vblank event). The model's own choices it is written
with: log 2 (DESIGN CHOICE: the parameters stand in State.cfg). Basis: 50_timing_unit.md section 2 (R235 to R238);
92_eei_decisions.md D11, D20, D21, D22, D23, D30, D33. -/
def Obligations.VblankFlagOverAnyNumberOfTicks : Prop :=
  ∀ (n : Nat) (s : State), s.ppu.cycle = 0 → s.ppu.scanline = 0 → s.ppu.status = 0x00#8 → s.cfg.vblDot = 0 →
    (ppuTicks n s).ppu.status = (if 82182 ≤ n % 89342 ∧ n % 89342 ≤ 89001 then 0x80#8 else 0x00#8) ∧
    (ppuTicks n s).nmiPending = (s.nmiPending || (s.ppu.ctrl.getLsbD 7 && decide (82182 ≤ n)))

/-- A tick at (241, VBL_DOT) sets bit 7 of status and sets nmi_pending if bit 7 of ctrl is 1; at (261, VBL_DOT) it clears
bits 7, 6 and 5 of status; at every other dot it changes neither. A tick changes no CPU register, flag or cell, no
parameter, no host call, and of the Timing Unit only the counters, the parity and status. Spec's own decisions it
rests on (log 7): D11 (the nmi_pending latch, NMI before IRQ), D20 (the dot of the vblank events), D21 (262 lines),
D22 (the latches cleared on line 261), D23 (no short frame, so nothing reads odd), D30 (the bits of ctrl and status),
D33 (no NMI but from the vblank event). The model's own choices it is written with: log 2 (DESIGN CHOICE: the
parameters stand in State.cfg). Basis: 50_timing_unit.md sections 1 and 2 (R231, R232, R236 to R238); 20_memory.md
section 7 (R62); 92_eei_decisions.md D11, D20, D21, D22, D23, D30, D33. -/
def Obligations.TimingUnitTickEffect : Prop :=
  ∀ s : State,
    (s.ppu.scanline = 241 → s.ppu.cycle = s.cfg.vblDot →
      (ppuTick s).ppu.status = s.ppu.status ||| 0x80#8 ∧
      (ppuTick s).nmiPending = (s.nmiPending || s.ppu.ctrl.getLsbD 7)) ∧
    (s.ppu.scanline = 261 → s.ppu.cycle = s.cfg.vblDot →
      (ppuTick s).ppu.status = s.ppu.status &&& 0x1F#8 ∧ (ppuTick s).nmiPending = s.nmiPending) ∧
    (¬(s.ppu.scanline = 241 ∧ s.ppu.cycle = s.cfg.vblDot) → ¬(s.ppu.scanline = 261 ∧ s.ppu.cycle = s.cfg.vblDot) →
      (ppuTick s).ppu.status = s.ppu.status ∧ (ppuTick s).nmiPending = s.nmiPending) ∧
    ppuTick s = { s with
      nmiPending := (ppuTick s).nmiPending
      ppu := { s.ppu with
        cycle := (ppuTick s).ppu.cycle
        scanline := (ppuTick s).ppu.scanline
        odd := (ppuTick s).ppu.odd
        status := (ppuTick s).ppu.status } } ∧
    dot (ppuTick s).ppu = (dot s.ppu + 1) % 89342 ∧
    (ppuTick s).ppu.odd = (s.ppu.odd ^^ decide (dot s.ppu = 89341))

/-- SED sets D, CLD clears it, PLP and RTI load it from bit 3 of the pulled byte, and a pushed copy shows it in bit 3; for
every instruction other than SED, CLD, PLP, RTI, PHP and BRK, changing D before the instruction changes nothing after
it but D, so none of these instructions reads it and ADC and SBC are binary at every D. The last clause is about exec:
what PHP and BRK make of D is in PushAndPullInstructions and BreakEntersAndRtiReturns, what the entries make of it in
NmiEntryAtTheBoundary and IrqEntryAtTheBoundary. R22 gives this as the spec's own reading ('This spec reads that as')
of a source sentence. Spec's own decisions it rests on (log 7): D3 (the optional instructions), D32 (the bit order of
the status byte), D35 (instructions the source never names), D36 (bits 4 and 5 in PHP, PLP and RTI). The model's own
choices it is written with: log 3 (DESIGN CHOICE: exec gives AAC, AAX and ARR their meaning whatever UNOFFICIAL is,
since the option is read by the decoder only; where it is false R220 makes their bytes UnknownOpcode, and the step
does so). Basis: 10_state.md section 3 (R22); 92_eei_decisions.md D3, D32, D35, D36. -/
def Obligations.DecimalFlagHasNoEffect : Prop :=
  (∀ s t, exec .sed s = .next t → t.p.d = true) ∧
  (∀ s t, exec .cld s = .next t → t.p.d = false) ∧
  (∀ s t, exec .plp s = .next t → t.p.d = (rawRead (word 0x01#8 (s.sp + 1#8)) s).getLsbD 3) ∧
  (∀ s t, exec .rti s = .next t → t.p.d = (rawRead (word 0x01#8 (s.sp + 1#8)) s).getLsbD 3) ∧
  (∀ (p : Flags) (b : Bool), (pByte p b).getLsbD 3 = p.d) ∧
  (∀ (i : Instr) (s t : State) (d : Bool),
    i ≠ .sed → i ≠ .cld → i ≠ .plp → i ≠ .rti → i ≠ .php → i ≠ .brk →
    exec i s = .next t → exec i (withD d s) = .next (withD d t))

/-- Two states that differ only in mask and odd step to states that differ at most in mask and odd, for every instruction,
interrupt entry, tick and reset; and a data write that reaches 0x2001 sets mask to the byte. Spec's own decisions it
rests on (log 7): D23 (no short frame, so nothing reads odd), D24 (the Timing Unit reset values). The model's own
choices it is written with: log 1 (DESIGN CHOICE: a step is one call of the host, and the calls stand in State.host).
Basis: 50_timing_unit.md section 3 (R240) and section 1 (R234); 10_state.md section 6; 92_eei_decisions.md D23, D24. -/
def Obligations.MaskAndParityAreNeverRead : Prop :=
  (∀ (s t : State) (mask : Byte) (odd : Bool), step s = .next t →
    ∃ mask' odd', step (withMaskOdd mask odd s) = .next (withMaskOdd mask' odd' t)) ∧
  (∀ (a : Word) (v : Byte) (s : State), mirror a = 0x2001#16 → (memWrite a v s).ppu = { s.ppu with mask := v })

/-- For every instruction and every state, exec answers a next state whose cycle, scanline, odd, nmi_pending, halted, cfg
and host are those before, and whose status can only lose bit 7. Spec's own decisions it rests on (log 7): D3 (the
optional instructions), D11 (the nmi_pending latch, NMI before IRQ), D17 (the value of 0x2002), D26 (the form of the
fault record and its end at reset), D30 (the bits of ctrl and status). The model's own choices it is written with: log
1 (DESIGN CHOICE: a step is one call of the host, and the calls stand in State.host); log 2 (DESIGN CHOICE: the
parameters stand in State.cfg); log 3 (DESIGN CHOICE: exec gives AAC, AAX and ARR their meaning whatever UNOFFICIAL
is, since the option is read by the decoder only; where it is false R220 makes their bytes UnknownOpcode, and the step
does so); log 6 (DEDUCED: a halt and the ticks after it are next states). Basis: 20_memory.md section 7 (R62);
50_timing_unit.md section 5 (R253); 92_eei_decisions.md D3, D11, D17, D26, D30. -/
def Obligations.InstructionsLeaveTheCountersAlone : Prop :=
  ∀ (i : Instr) (s : State), ∃ t, exec i s = .next t ∧
    t.ppu.cycle = s.ppu.cycle ∧ t.ppu.scanline = s.ppu.scanline ∧ t.ppu.odd = s.ppu.odd ∧
    t.nmiPending = s.nmiPending ∧ t.halted = s.halted ∧ t.cfg = s.cfg ∧ t.host = s.host ∧
    (t.ppu.status = s.ppu.status ∨ t.ppu.status = s.ppu.status &&& 0x7F#8)

/-- For every instruction that is not a branch, JMP, JSR, RTS, RTI or BRK, exec answers a next state with PC advanced by
the instruction's length, a number from 1 to 3; a branch advances PC by its length 2 when its condition is false, and
when it is true leaves PC at that address plus the sign-extended offset; an undefined opcode leaves PC one on; and a
step that is no boundary tick and no CPU reset leaves PC alone. The target of a taken branch is R180's; where JMP,
JSR, RTS, RTI and BRK leave PC is in JumpCallAndReturn and BreakEntersAndRtiReturns. Spec's own decisions it rests on
(log 7): D1 (opcode bytes and the forms each instruction has), D3 (the optional instructions), D10 (interrupts
examined at a boundary only), D26 (the form of the fault record and its end at reset), D35 (instructions the source
never names), D37 (the forms outside the resolver), D45 (the Timing Unit runs while the CPU waits and stops at a
halt). The model's own choices it is written with: log 1 (DESIGN CHOICE: a step is one call of the host, and the calls
stand in State.host); log 3 (DESIGN CHOICE: exec gives AAC, AAX and ARR their meaning whatever UNOFFICIAL is, since
the option is read by the decoder only; where it is false R220 makes their bytes UnknownOpcode, and the step does so);
log 6 (DEDUCED: a halt and the ticks after it are next states). Basis: 10_state.md section 2 (R15);
44_control_transfer.md section 1 (R180); 60_exceptions.md section 2 (R261); 92_eei_decisions.md D1, D3, D10, D26, D35,
D37, D45. -/
def Obligations.PcAdvancesByTheLength : Prop :=
  (∀ (i : Instr) (s : State),
    (∀ d, i ≠ .bcc d ∧ i ≠ .bcs d ∧ i ≠ .beq d ∧ i ≠ .bne d ∧ i ≠ .bpl d ∧ i ≠ .bmi d ∧ i ≠ .bvc d ∧ i ≠ .bvs d) →
    (∀ w, i ≠ .jmpAbs w ∧ i ≠ .jmpInd w ∧ i ≠ .jsr w) → i ≠ .rts → i ≠ .rti → i ≠ .brk →
    ∃ t, exec i s = .next t ∧ t.pc = s.pc + BitVec.ofNat 16 i.length ∧ 1 ≤ i.length ∧ i.length ≤ 3) ∧
  (∀ (d : Byte) (s : State) (i : Instr) (taken : Bool),
    (i, taken) ∈ [(Instr.bcc d, !s.p.c), (.bcs d, s.p.c), (.bne d, !s.p.z), (.beq d, s.p.z),
      (.bpl d, !s.p.n), (.bmi d, s.p.n), (.bvc d, !s.p.v), (.bvs d, s.p.v)] →
    ∃ t, exec i s = .next t ∧ i.length = 2 ∧
      (taken = false → t.pc = s.pc + 2#16) ∧ (taken = true → t.pc = s.pc + 2#16 + d.signExtend 16)) ∧
  (∀ (s t : State), step s = .next t → t.halted ≠ s.halted → t.halted ≠ none → t.pc = s.pc + 1#16) ∧
  (∀ (s t : State), step s = .next t → s.host.head? ≠ some .cpuReset →
    (s.halted ≠ none ∨ 0 < s.wait ∨ s.nextIrq = none) → t.pc = s.pc)

/-- map(a) is a mod 0x800 for a from 0x0800 to 0x1FFF, 0x2000 + a mod 8 for a from 0x2008 to 0x3FFF, and a otherwise; it
is total, it is idempotent, and its image is 0x0000..0x07FF, 0x2000..0x2007 and 0x4000..0xFFFF. Basis: R41. -/
def Obligations.MappingFoldsTheMirrors : Prop :=
  ∀ a : Word,
    (0x07FF < a.toNat ∧ a.toNat < 0x2000 → (mirror a).toNat = a.toNat % 0x800) ∧
    (0x2007 < a.toNat ∧ a.toNat < 0x4000 → (mirror a).toNat = 0x2000 + a.toNat % 8) ∧
    (a.toNat ≤ 0x07FF ∨ (0x2000 ≤ a.toNat ∧ a.toNat ≤ 0x2007) ∨ 0x4000 ≤ a.toNat → mirror a = a) ∧
    mirror (mirror a) = mirror a ∧
    ((mirror a).toNat ≤ 0x07FF ∨ (0x2000 ≤ (mirror a).toNat ∧ (mirror a).toNat ≤ 0x2007) ∨
      0x4000 ≤ (mirror a).toNat)

/-- RawRead(a) is the array cell map(a); after RawWrite(a, v), every address with the same mapping reads v, every other
address reads as before, and nothing but the array changed. The array is held in a canonical form, which a state is
assumed to have and which RawWrite keeps: that form, and so this clause and the hypothesis, are the model's own choice
(log 4, DESIGN CHOICE), no rule of the spec. Basis: 20_memory.md section 2 (R43). -/
def Obligations.RawAccessReadsAndWritesOneCell : Prop :=
  ∀ (a : Word) (v : Byte) (s : State), s.mem.wf →
    rawRead a s = s.mem.read (mirror a).toNat ∧
    (rawWrite a v s).mem.wf ∧
    (∀ b : Word, mirror b = mirror a → rawRead b (rawWrite a v s) = v) ∧
    (∀ b : Word, mirror b ≠ mirror a → rawRead b (rawWrite a v s) = rawRead b s) ∧
    rawWrite a v s = { s with mem := (rawWrite a v s).mem }

/-- A read that maps to 0x2002 answers status, clears its bit 7 and the address latch; one that maps to 0x2007 answers the
video byte at the pointer when the pointer is at or above 0x3F00 (and loads the buffer from 0x1000 below), else the
old buffer (and loads it from the pointer), and advances the pointer by 1 or 32 mod 0x4000; any other read answers the
array cell and changes nothing. No read changes a CPU register, a cell or video memory. Spec's own decisions it rests
on (logs 7, 8): D16 (the array cell behind the window), D17 (the value of 0x2002), D18 (the size of video memory and
its pointer), D19 (the buffer after a palette read), D30 (the bits of ctrl and status). Basis: 20_memory.md section 3
(R46); 50_timing_unit.md section 4 (R245 to R247); 92_eei_decisions.md D16, D17, D18, D19, D30. -/
def Obligations.DataReadThroughTheBridge : Prop :=
  ∀ (a : Word) (s : State),
    (mirror a = 0x2002#16 →
      memRead a s = (s.ppu.status,
        { s with ppu := { s.ppu with status := s.ppu.status &&& 0x7F#8, w := false } })) ∧
    (mirror a = 0x2007#16 → 0x3F00 ≤ s.ppu.ptr.toNat →
      memRead a s = (s.ppu.vram.read s.ppu.ptr.toNat,
        { s with ppu := { s.ppu with
            buf := s.ppu.vram.read (s.ppu.ptr.toNat - 0x1000)
            ptr := BitVec.ofNat 14 (s.ppu.ptr.toNat + if s.ppu.ctrl.getLsbD 2 then 32 else 1) } })) ∧
    (mirror a = 0x2007#16 → s.ppu.ptr.toNat < 0x3F00 →
      memRead a s = (s.ppu.buf,
        { s with ppu := { s.ppu with
            buf := s.ppu.vram.read s.ppu.ptr.toNat
            ptr := BitVec.ofNat 14 (s.ppu.ptr.toNat + if s.ppu.ctrl.getLsbD 2 then 32 else 1) } })) ∧
    (mirror a ≠ 0x2002#16 → mirror a ≠ 0x2007#16 → memRead a s = (s.mem.read (mirror a).toNat, s))

/-- A write stores the byte in the mapped cell in every case and leaves every other cell. If the mapped address is 0x2000
it also sets ctrl, 0x2001 mask; 0x2006 loads the high six bits of the pointer when the latch is 0 and its low byte
when it is 1, and toggles the latch; 0x2007 stores the byte in video memory at the pointer, leaves every other video
cell, and advances the pointer by 1 or 32 mod 0x4000; any other address has no Timing Unit effect. Spec's own
decisions it rests on (log 7): D16 (the array cell behind the window), D18 (the size of video memory and its pointer),
D30 (the bits of ctrl and status). The model's own choices it is written with: log 4 (DESIGN CHOICE: the canonical
form of memory, a hypothesis that shuts out no contents). Basis: 20_memory.md section 3 (R47); 50_timing_unit.md
section 3 (R239, R241, R243, R244); 92_eei_decisions.md D16, D18, D30. -/
def Obligations.DataWriteThroughTheBridge : Prop :=
  ∀ (a : Word) (v : Byte) (s : State), s.wf →
    StoredAt a v s (memWrite a v s) ∧
    memWrite a v s = { s with mem := (memWrite a v s).mem, ppu := (memWrite a v s).ppu } ∧
    (mirror a = 0x2000#16 → (memWrite a v s).ppu = { s.ppu with ctrl := v }) ∧
    (mirror a = 0x2001#16 → (memWrite a v s).ppu = { s.ppu with mask := v }) ∧
    (mirror a = 0x2006#16 → s.ppu.w = false →
      (memWrite a v s).ppu = { s.ppu with
        w := true
        ptr := BitVec.ofNat 14 ((v.toNat % 0x40) * 0x100 + s.ppu.ptr.toNat % 0x100) }) ∧
    (mirror a = 0x2006#16 → s.ppu.w = true →
      (memWrite a v s).ppu = { s.ppu with
        w := false
        ptr := BitVec.ofNat 14 (s.ppu.ptr.toNat / 0x100 * 0x100 + v.toNat) }) ∧
    (mirror a = 0x2007#16 →
      (memWrite a v s).ppu = { s.ppu with
        vram := (memWrite a v s).ppu.vram
        ptr := BitVec.ofNat 14 (s.ppu.ptr.toNat + if s.ppu.ctrl.getLsbD 2 then 32 else 1) } ∧
      (memWrite a v s).ppu.vram.read s.ppu.ptr.toNat = v ∧
      ∀ k, k ≠ s.ppu.ptr.toNat → (memWrite a v s).ppu.vram.read k = s.ppu.vram.read k) ∧
    (mirror a ≠ 0x2000#16 → mirror a ≠ 0x2001#16 → mirror a ≠ 0x2006#16 → mirror a ≠ 0x2007#16 →
      (memWrite a v s).ppu = s.ppu)

/-- Fetch answers the array cell at the mapped address for every address, so it does not depend on the Timing Unit.
MemRead(a, 2) reads the byte at a first, then the byte at a + 1 (wrapping from 0xFFFF to 0x0000) in the state the
first read leaves, and answers high times 256 plus low. Spec's own decisions it rests on (log 7): D12 (each byte of a
16-bit read mapped on its own), D14 (fetch past the bridge). Basis: 20_memory.md sections 3 and 4 (R45, R48, R49);
70_reset_and_hazards.md section 4 (R302); 92_eei_decisions.md D12, D14. -/
def Obligations.FetchAndSixteenBitRead : Prop :=
  ∀ (a : Word) (s : State) (u : TimingUnit),
    fetch a s = s.mem.read (mirror a).toNat ∧ fetch a { s with ppu := u } = fetch a s ∧
    (memRead16 a s).1.toNat =
      (memRead (BitVec.ofNat 16 (a.toNat + 1)) (memRead a s).2).1.toNat * 256 + (memRead a s).1.toNat ∧
    (memRead16 a s).2 = (memRead (BitVec.ofNat 16 (a.toNat + 1)) (memRead a s).2).2

/-- After Push16(w) from SP = s the cell 0x0100 + s holds the high byte, the cell 0x0100 + (s - 1 mod 256) the low byte,
and SP is s - 2 mod 256; Pop16() answers the word whose low byte is popped first; Push16 then Pop16 answers w and
leaves SP as it was, and Push then Pop answers v and leaves SP as it was, for every SP. The model's own choices it is
written with: log 4 (DESIGN CHOICE: the canonical form of memory, a hypothesis that shuts out no contents). Basis:
R114; R115. -/
def Obligations.StackRoundTrip : Prop :=
  ∀ (w : Word) (v : Byte) (s : State), s.mem.wf →
    rawRead (word 0x01#8 s.sp) (push16 w s) = hiByte w ∧
    rawRead (word 0x01#8 (s.sp - 1#8)) (push16 w s) = loByte w ∧
    (push16 w s).sp = s.sp - 2#8 ∧
    push16 w s = push (loByte w) (push (hiByte w) s) ∧
    pop16 s = (word (pop (pop s).2).1 (pop s).1, (pop (pop s).2).2) ∧
    (pop16 (push16 w s)).1 = w ∧ (pop16 (push16 w s)).2.sp = s.sp ∧
    (pop (push v s)).1 = v ∧ (pop (push v s)).2.sp = s.sp

/-- Push(v) stores v at 0x0100 + SP and then decrements SP mod 256; Pop() increments SP mod 256 and answers the cell
0x0100 + SP; the address lies in 0x0100 to 0x01FF, map leaves it unchanged, and neither has a Timing Unit effect nor a
fault. Spec's own decisions it rests on (log 7): D43 (the access path of the stack). The model's own choices it is
written with: log 4 (DESIGN CHOICE: the canonical form of memory, a hypothesis that shuts out no contents). Basis:
40_addressing_and_stack.md section 2 (R112, R113, R116); 92_eei_decisions.md D43. -/
def Obligations.StackStaysInPageOne : Prop :=
  ∀ (v : Byte) (s : State), s.mem.wf →
    0x0100 ≤ (word 0x01#8 s.sp).toNat ∧ (word 0x01#8 s.sp).toNat ≤ 0x01FF ∧
    mirror (word 0x01#8 s.sp) = word 0x01#8 s.sp ∧
    StoredAt (word 0x01#8 s.sp) v s (push v s) ∧
    push v s = { s with sp := BitVec.ofNat 8 (s.sp.toNat + 255), mem := (push v s).mem } ∧
    pop s = (rawRead (word 0x01#8 (BitVec.ofNat 8 (s.sp.toNat + 1))) s,
      { s with sp := BitVec.ofNat 8 (s.sp.toNat + 1) })

/-- Zero page: the operand byte; zero page indexed: the sum mod 256, never a page cross; absolute: the operand word;
absolute indexed: the sum mod 0x10000, with a page cross exactly when the low byte plus the index exceeds 0xFF,
equivalently when the page of the effective address differs from the operand's. Basis: R101; R102; R103; R104; R105;
R106. -/
def Obligations.ResolverDirectAndIndexedForms : Prop :=
  ∀ (s : State) (d : Byte) (w : Word),
    resolve (.zp d) s = (BitVec.ofNat 16 d.toNat, false) ∧
    resolve (.zpx d) s = (BitVec.ofNat 16 ((d.toNat + s.x.toNat) % 256), false) ∧
    resolve (.zpy d) s = (BitVec.ofNat 16 ((d.toNat + s.y.toNat) % 256), false) ∧
    resolve (.abs w) s = (w, false) ∧
    resolve (.absx w) s =
      (BitVec.ofNat 16 (w.toNat + s.x.toNat), decide (w.toNat % 256 + s.x.toNat > 0xFF)) ∧
    resolve (.absy w) s =
      (BitVec.ofNat 16 (w.toNat + s.y.toNat), decide (w.toNat % 256 + s.y.toNat > 0xFF)) ∧
    ((resolve (.absx w) s).2 = true ↔ page (resolve (.absx w) s).1 ≠ page w) ∧
    ((resolve (.absy w) s).2 = true ↔ page (resolve (.absy w) s).1 ≠ page w)

/-- (zp,X): both pointer bytes come from page zero, at operand + X and the next address mod 256, and there is never a page
cross. (zp),Y: the pointer at the operand byte plus Y mod 0x10000, with a page cross exactly when the pointer's low
byte plus Y exceeds 0xFF, equivalently when the page of the effective address is not the pointer's high byte.
Resolving an address reads nothing else. Spec's own decisions it rests on (log 7): D13 (the pointer wraps in page
zero), D15 (no access beyond those listed). Basis: 40_addressing_and_stack.md section 1 (R107, R108, R111);
92_eei_decisions.md D13, D15. -/
def Obligations.ResolverIndirectForms : Prop :=
  ∀ (s : State) (d : Byte),
    resolve (.indx d) s =
      (word (s.mem.read ((d.toNat + s.x.toNat + 1) % 256)) (s.mem.read ((d.toNat + s.x.toNat) % 256)), false) ∧
    resolve (.indy d) s =
      (BitVec.ofNat 16 ((s.mem.read ((d.toNat + 1) % 256)).toNat * 256 + (s.mem.read d.toNat).toNat + s.y.toNat),
        decide ((s.mem.read d.toNat).toNat + s.y.toNat > 0xFF)) ∧
    ((resolve (.indy d) s).2 = true ↔ page (resolve (.indy d) s).1 ≠ s.mem.read ((d.toNat + 1) % 256))

/-- The operand of form acc is A and of form imm the operand byte, with no access; of every other form it is the data read
at the resolved address, with that read's side effects and no others. Spec's own decisions it rests on (log 7): D15
(no access beyond those listed), D37 (the forms outside the resolver). Basis: 40_addressing_and_stack.md section 1
(R110); 92_eei_decisions.md D15, D37. -/
def Obligations.OperandValueOfEachForm : Prop :=
  ∀ (s : State) (d : Byte) (w : Word),
    readOperand .acc s = (s.a, s) ∧ readOperand (.imm d) s = (d, s) ∧
    (∀ m ∈ [Operand.zp d, .zpx d, .zpy d, .abs w, .absx w, .absy w, .indx d, .indy d],
      readOperand m s = memRead (resolve m s).1 s)

/-- For every A, M and flags: the result is A + M + C mod 256; C is 1 exactly when the sum exceeds 0xFF; V is 1 exactly
when the two's-complement sum lies outside -128 to 127; Z and N are those of the 8-bit result; I and D are unchanged.
Basis: 42_arithmetic_logic_compare.md sections 1 and 2 (R140, R149). -/
def Obligations.AdcIsIntegerAddition : Prop :=
  ∀ (a m : Byte) (p : Flags),
    (adc a m p).1 = BitVec.ofNat 8 (a.toNat + m.toNat + p.c.toNat) ∧
    (adc a m p).2 = { p with
      c := decide (a.toNat + m.toNat + p.c.toNat > 0xFF)
      v := decide (a.toInt + m.toInt + p.c.toNat < -128 ∨ 127 < a.toInt + m.toInt + p.c.toNat)
      z := decide ((a.toNat + m.toNat + p.c.toNat) % 256 = 0)
      n := decide (128 ≤ (a.toNat + m.toNat + p.c.toNat) % 256) }

/-- For every A, M and flags: the result is A - M - (1 - C) mod 256; C is 1 exactly when that difference is not negative;
V is 1 exactly when the two's-complement difference lies outside -128 to 127; Z and N are those of the result; I and D
are unchanged. Basis: 42_arithmetic_logic_compare.md sections 1 and 2 (R141, R149). -/
def Obligations.SbcIsIntegerSubtraction : Prop :=
  ∀ (a m : Byte) (p : Flags),
    (sbc a m p).1 = BitVec.ofInt 8 ((a.toNat : Int) - m.toNat - (1 - p.c.toNat)) ∧
    (sbc a m p).2 = { p with
      c := decide (0 ≤ (a.toNat : Int) - m.toNat - (1 - p.c.toNat))
      v := decide (a.toInt - m.toInt - (1 - p.c.toNat) < -128 ∨ 127 < a.toInt - m.toInt - (1 - p.c.toNat))
      z := decide ((sbc a m p).1 = 0x00#8)
      n := (sbc a m p).1.getLsbD 7 }

/-- For every register and operand byte: C is 1 exactly when the register is at least the operand (unsigned), Z exactly
when they are equal; under signed16 N is the complement of C; under bit7 it is bit 7 of the 8-bit difference; the two
rules agree on N exactly when the difference lies in -128 to 127; V, I and D are unchanged. Spec's own decisions it
rests on (log 7): D29 (CMP_N_RULE). Basis: 42_arithmetic_logic_compare.md section 4 (R150); 90_conflicts.md C6;
92_eei_decisions.md D29. -/
def Obligations.CompareFlagsUnderBothRules : Prop :=
  ∀ (rule : CmpNRule) (reg m : Byte) (p : Flags),
    compareFlags rule reg m p = { p with
      c := decide (m.toNat ≤ reg.toNat)
      z := decide (reg = m)
      n := (compareFlags rule reg m p).n } ∧
    (compareFlags .signed16 reg m p).n = !(compareFlags .signed16 reg m p).c ∧
    (compareFlags .bit7 reg m p).n = (reg - m).getLsbD 7 ∧
    ((compareFlags .signed16 reg m p).n = (compareFlags .bit7 reg m p).n ↔
      (-128 ≤ (reg.toNat : Int) - m.toNat ∧ (reg.toNat : Int) - m.toNat ≤ 127))

/-- A pushed copy has N V 1 B D I Z C from bit 7 down; loading a copy gives back the flags it was made from, whatever B
was; and copying what was loaded from a byte keeps its bits 7, 6 and 3 to 0, sets bit 5 and puts B in bit 4. Spec's
own decisions it rests on (log 7): D4 (bits 4 and 5 of a status copy), D32 (the bit order of the status byte), D36
(bits 4 and 5 in PHP, PLP and RTI). Basis: 10_state.md section 3 (R17, R20); 92_eei_decisions.md D4, D32, D36. -/
def Obligations.StatusByteRoundTrip : Prop :=
  ∀ (p : Flags) (b : Bool) (v : Byte),
    (pByte p b).toNat = p.n.toNat * 128 + p.v.toNat * 64 + 32 + b.toNat * 16 + p.d.toNat * 8 + p.i.toNat * 4 +
      p.z.toNat * 2 + p.c.toNat ∧
    flagsOfByte (pByte p b) = p ∧
    pByte (flagsOfByte v) b = (v &&& 0xCF#8) ||| 0x20#8 ||| (if b then 0x10#8 else 0x00#8)

/-- Rotating left nine times gives back the byte and the carry, rotating right undoes rotating left and rotating left
undoes rotating right, for every byte and carry. Basis: 43_shift_incdec.md section 1 (R162, R163). -/
def Obligations.NineRotationsRestore : Prop :=
  ∀ (v : Byte) (p : Flags),
    (((fun q : Byte × Flags => rol q.1 q.2)^[9]) (v, p)).1 = v ∧
    (((fun q : Byte × Flags => rol q.1 q.2)^[9]) (v, p)).2.c = p.c ∧
    (ror (rol v p).1 (rol v p).2).1 = v ∧ (ror (rol v p).1 (rol v p).2).2.c = p.c ∧
    (rol (ror v p).1 (ror v p).2).1 = v ∧ (rol (ror v p).1 (ror v p).2).2.c = p.c

/-- Each of the 18 forms of LDA, LDX and LDY completes from every state: the register is the operand, Z and N are from it,
PC advances by the length, wait is the cost less one (one more on a page cross in a penalised form), the Timing Unit
shows the read's side effects, and no other register, flag or cell changes. Spec's own decisions it rests on (log 7):
D1 (opcode bytes and the forms each instruction has), D2 (costs and page-cross rows), D15 (no access beyond those
listed), D35 (instructions the source never names), D37 (the forms outside the resolver). Basis:
41_load_store_transfer.md section 1; 40_addressing_and_stack.md section 1 (R109); 92_eei_decisions.md D1, D2, D15,
D35, D37. -/
def Obligations.LoadsFillTheRegister : Prop :=
  ∀ (s : State) (d : Byte) (w : Word),
    Reads (.ldaImm d) (.imm d) 2 2 false (fun v t => { t with a := v, p := { t.p with z := decide (v = 0x00#8), n := v.getLsbD 7 } }) s ∧
    Reads (.ldaZp d) (.zp d) 2 3 false (fun v t => { t with a := v, p := { t.p with z := decide (v = 0x00#8), n := v.getLsbD 7 } }) s ∧
    Reads (.ldaZpx d) (.zpx d) 2 4 false (fun v t => { t with a := v, p := { t.p with z := decide (v = 0x00#8), n := v.getLsbD 7 } }) s ∧
    Reads (.ldaAbs w) (.abs w) 3 4 false (fun v t => { t with a := v, p := { t.p with z := decide (v = 0x00#8), n := v.getLsbD 7 } }) s ∧
    Reads (.ldaAbsx w) (.absx w) 3 4 true (fun v t => { t with a := v, p := { t.p with z := decide (v = 0x00#8), n := v.getLsbD 7 } }) s ∧
    Reads (.ldaAbsy w) (.absy w) 3 4 true (fun v t => { t with a := v, p := { t.p with z := decide (v = 0x00#8), n := v.getLsbD 7 } }) s ∧
    Reads (.ldaIndx d) (.indx d) 2 6 false (fun v t => { t with a := v, p := { t.p with z := decide (v = 0x00#8), n := v.getLsbD 7 } }) s ∧
    Reads (.ldaIndy d) (.indy d) 2 5 true (fun v t => { t with a := v, p := { t.p with z := decide (v = 0x00#8), n := v.getLsbD 7 } }) s ∧
    Reads (.ldxImm d) (.imm d) 2 2 false (fun v t => { t with x := v, p := { t.p with z := decide (v = 0x00#8), n := v.getLsbD 7 } }) s ∧
    Reads (.ldxZp d) (.zp d) 2 3 false (fun v t => { t with x := v, p := { t.p with z := decide (v = 0x00#8), n := v.getLsbD 7 } }) s ∧
    Reads (.ldxZpy d) (.zpy d) 2 4 false (fun v t => { t with x := v, p := { t.p with z := decide (v = 0x00#8), n := v.getLsbD 7 } }) s ∧
    Reads (.ldxAbs w) (.abs w) 3 4 false (fun v t => { t with x := v, p := { t.p with z := decide (v = 0x00#8), n := v.getLsbD 7 } }) s ∧
    Reads (.ldxAbsy w) (.absy w) 3 4 true (fun v t => { t with x := v, p := { t.p with z := decide (v = 0x00#8), n := v.getLsbD 7 } }) s ∧
    Reads (.ldyImm d) (.imm d) 2 2 false (fun v t => { t with y := v, p := { t.p with z := decide (v = 0x00#8), n := v.getLsbD 7 } }) s ∧
    Reads (.ldyZp d) (.zp d) 2 3 false (fun v t => { t with y := v, p := { t.p with z := decide (v = 0x00#8), n := v.getLsbD 7 } }) s ∧
    Reads (.ldyZpx d) (.zpx d) 2 4 false (fun v t => { t with y := v, p := { t.p with z := decide (v = 0x00#8), n := v.getLsbD 7 } }) s ∧
    Reads (.ldyAbs w) (.abs w) 3 4 false (fun v t => { t with y := v, p := { t.p with z := decide (v = 0x00#8), n := v.getLsbD 7 } }) s ∧
    Reads (.ldyAbsx w) (.absx w) 3 4 true (fun v t => { t with y := v, p := { t.p with z := decide (v = 0x00#8), n := v.getLsbD 7 } }) s

/-- Each of the 17 forms completes from every well-formed state: the cell of the effective address holds A, X, Y or A and
X, every other address reads as before, the Timing Unit shows the write's effect if the address is in the window, PC
advances by the length, wait is the fixed cost less one, and no register or flag changes. Spec's own decisions it
rests on (logs 7, 8): D1 (opcode bytes and the forms each instruction has), D2 (costs and page-cross rows), D3 (the
optional instructions), D15 (no access beyond those listed), D16 (the array cell behind the window), D35 (instructions
the source never names). The model's own choices it is written with: log 3 (DESIGN CHOICE: exec gives AAC, AAX and ARR
their meaning whatever UNOFFICIAL is, since the option is read by the decoder only; where it is false R220 makes their
bytes UnknownOpcode, and the step does so); log 4 (DESIGN CHOICE: the canonical form of memory, a hypothesis that
shuts out no contents). Basis: 41_load_store_transfer.md section 2; 48_unofficial.md (AAX); 92_eei_decisions.md D1,
D2, D3, D15, D16, D35. -/
def Obligations.StoresWriteOneCell : Prop :=
  ∀ (s : State) (d : Byte) (w : Word), s.wf →
    Stores (.staZp d) (.zp d) 2 3 s.a s ∧
    Stores (.staZpx d) (.zpx d) 2 4 s.a s ∧
    Stores (.staAbs w) (.abs w) 3 4 s.a s ∧
    Stores (.staAbsx w) (.absx w) 3 5 s.a s ∧
    Stores (.staAbsy w) (.absy w) 3 5 s.a s ∧
    Stores (.staIndx d) (.indx d) 2 6 s.a s ∧
    Stores (.staIndy d) (.indy d) 2 6 s.a s ∧
    Stores (.stxZp d) (.zp d) 2 3 s.x s ∧
    Stores (.stxZpy d) (.zpy d) 2 4 s.x s ∧
    Stores (.stxAbs w) (.abs w) 3 4 s.x s ∧
    Stores (.styZp d) (.zp d) 2 3 s.y s ∧
    Stores (.styZpx d) (.zpx d) 2 4 s.y s ∧
    Stores (.styAbs w) (.abs w) 3 4 s.y s ∧
    Stores (.aaxZp d) (.zp d) 2 3 (s.a &&& s.x) s ∧
    Stores (.aaxZpy d) (.zpy d) 2 4 (s.a &&& s.x) s ∧
    Stores (.aaxAbs w) (.abs w) 3 4 (s.a &&& s.x) s ∧
    Stores (.aaxIndx d) (.indx d) 2 6 (s.a &&& s.x) s

/-- Each completes from every state in 2 ticks: the destination of a transfer holds the source, a counted register moves
by one mod 256, Z and N are from the new value except that TXS writes no flag, PC advances by 1 and nothing else
changes. Spec's own decisions it rests on (log 7): D1 (opcode bytes and the forms each instruction has), D2 (costs and
page-cross rows). Basis: 41_load_store_transfer.md section 3 (R126 to R131); 43_shift_incdec.md section 3 (R166 to
R169); 92_eei_decisions.md D1, D2. -/
def Obligations.TransfersAndIndexCounts : Prop :=
  ∀ s : State,
    exec .tax s = .next { s with x := s.a, p := { s.p with z := decide (s.a = 0x00#8), n := (s.a).getLsbD 7 }, pc := s.pc + 1#16, wait := 1 } ∧
    exec .tay s = .next { s with y := s.a, p := { s.p with z := decide (s.a = 0x00#8), n := (s.a).getLsbD 7 }, pc := s.pc + 1#16, wait := 1 } ∧
    exec .txa s = .next { s with a := s.x, p := { s.p with z := decide (s.x = 0x00#8), n := (s.x).getLsbD 7 }, pc := s.pc + 1#16, wait := 1 } ∧
    exec .tya s = .next { s with a := s.y, p := { s.p with z := decide (s.y = 0x00#8), n := (s.y).getLsbD 7 }, pc := s.pc + 1#16, wait := 1 } ∧
    exec .tsx s = .next { s with x := s.sp, p := { s.p with z := decide (s.sp = 0x00#8), n := (s.sp).getLsbD 7 }, pc := s.pc + 1#16, wait := 1 } ∧
    exec .txs s = .next { s with sp := s.x, pc := s.pc + 1#16, wait := 1 } ∧
    exec .inx s = .next { s with x := s.x + 1#8, p := { s.p with z := decide (s.x + 1#8 = 0x00#8), n := (s.x + 1#8).getLsbD 7 }, pc := s.pc + 1#16, wait := 1 } ∧
    exec .iny s = .next { s with y := s.y + 1#8, p := { s.p with z := decide (s.y + 1#8 = 0x00#8), n := (s.y + 1#8).getLsbD 7 }, pc := s.pc + 1#16, wait := 1 } ∧
    exec .dex s = .next { s with x := s.x - 1#8, p := { s.p with z := decide (s.x - 1#8 = 0x00#8), n := (s.x - 1#8).getLsbD 7 }, pc := s.pc + 1#16, wait := 1 } ∧
    exec .dey s = .next { s with y := s.y - 1#8, p := { s.p with z := decide (s.y - 1#8 = 0x00#8), n := (s.y - 1#8).getLsbD 7 }, pc := s.pc + 1#16, wait := 1 }

/-- PHA stores A and PHP the status copy with bits 5 and 4 set at 0x0100 + SP and decrement SP; PLA loads A from 0x0100 +
SP + 1 with Z and N, PLP loads the six flags from bits 7, 6, 3, 2, 1, 0 of that byte, and both increment SP; PC
advances by 1, the costs are 3 and 4, and nothing else changes. Spec's own decisions it rests on (log 7): D1 (opcode
bytes and the forms each instruction has), D2 (costs and page-cross rows), D4 (bits 4 and 5 of a status copy), D32
(the bit order of the status byte), D36 (bits 4 and 5 in PHP, PLP and RTI), D43 (the access path of the stack). The
model's own choices it is written with: log 4 (DESIGN CHOICE: the canonical form of memory, a hypothesis that shuts
out no contents). Basis: 41_load_store_transfer.md section 4 (R132 to R135); 92_eei_decisions.md D1, D2, D4, D32, D36,
D43. -/
def Obligations.PushAndPullInstructions : Prop :=
  ∀ s : State, s.mem.wf →
    (∃ t, exec .pha s = .next t ∧ StoredAt (word 0x01#8 s.sp) (s.a) s t ∧
      t = { s with sp := s.sp - 1#8, pc := s.pc + 1#16, wait := 2, mem := t.mem }) ∧
    (∃ t, exec .php s = .next t ∧ StoredAt (word 0x01#8 s.sp) (pByte s.p true) s t ∧
      t = { s with sp := s.sp - 1#8, pc := s.pc + 1#16, wait := 2, mem := t.mem }) ∧
    (let v := rawRead (word 0x01#8 (s.sp + 1#8)) s;
      exec .pla s = .next { s with
        a := v, p := { s.p with z := decide (v = 0x00#8), n := v.getLsbD 7 }
        sp := s.sp + 1#8, pc := s.pc + 1#16, wait := 3 }) ∧
    (let v := rawRead (word 0x01#8 (s.sp + 1#8)) s;
      exec .plp s = .next { s with
        p := { n := v.getLsbD 7, v := v.getLsbD 6, d := v.getLsbD 3, i := v.getLsbD 2, z := v.getLsbD 1,
               c := v.getLsbD 0 }
        sp := s.sp + 1#8, pc := s.pc + 1#16, wait := 3 })

/-- Each of the 16 forms completes from every state: A and the flags are those of the addition or subtraction of the
operand (stated of adc and sbc in AdcIsIntegerAddition and SbcIsIntegerSubtraction), PC advances by the length, wait
is the cost less one with the page-cross bonus, and nothing else changes but the Timing Unit's read effects. Spec's
own decisions it rests on (log 7): D1 (opcode bytes and the forms each instruction has), D2 (costs and page-cross
rows), D15 (no access beyond those listed), D37 (the forms outside the resolver). Basis:
42_arithmetic_logic_compare.md section 2 (R140, R141); 40_addressing_and_stack.md section 1 (R109);
92_eei_decisions.md D1, D2, D15, D37. -/
def Obligations.AddAndSubtractInstructions : Prop :=
  ∀ (s : State) (d : Byte) (w : Word),
    Reads (.adcImm d) (.imm d) 2 2 false (fun v t => { t with a := (adc t.a v t.p).1, p := (adc t.a v t.p).2 }) s ∧
    Reads (.adcZp d) (.zp d) 2 3 false (fun v t => { t with a := (adc t.a v t.p).1, p := (adc t.a v t.p).2 }) s ∧
    Reads (.adcZpx d) (.zpx d) 2 4 false (fun v t => { t with a := (adc t.a v t.p).1, p := (adc t.a v t.p).2 }) s ∧
    Reads (.adcAbs w) (.abs w) 3 4 false (fun v t => { t with a := (adc t.a v t.p).1, p := (adc t.a v t.p).2 }) s ∧
    Reads (.adcAbsx w) (.absx w) 3 4 true (fun v t => { t with a := (adc t.a v t.p).1, p := (adc t.a v t.p).2 }) s ∧
    Reads (.adcAbsy w) (.absy w) 3 4 true (fun v t => { t with a := (adc t.a v t.p).1, p := (adc t.a v t.p).2 }) s ∧
    Reads (.adcIndx d) (.indx d) 2 6 false (fun v t => { t with a := (adc t.a v t.p).1, p := (adc t.a v t.p).2 }) s ∧
    Reads (.adcIndy d) (.indy d) 2 5 true (fun v t => { t with a := (adc t.a v t.p).1, p := (adc t.a v t.p).2 }) s ∧
    Reads (.sbcImm d) (.imm d) 2 2 false (fun v t => { t with a := (sbc t.a v t.p).1, p := (sbc t.a v t.p).2 }) s ∧
    Reads (.sbcZp d) (.zp d) 2 3 false (fun v t => { t with a := (sbc t.a v t.p).1, p := (sbc t.a v t.p).2 }) s ∧
    Reads (.sbcZpx d) (.zpx d) 2 4 false (fun v t => { t with a := (sbc t.a v t.p).1, p := (sbc t.a v t.p).2 }) s ∧
    Reads (.sbcAbs w) (.abs w) 3 4 false (fun v t => { t with a := (sbc t.a v t.p).1, p := (sbc t.a v t.p).2 }) s ∧
    Reads (.sbcAbsx w) (.absx w) 3 4 true (fun v t => { t with a := (sbc t.a v t.p).1, p := (sbc t.a v t.p).2 }) s ∧
    Reads (.sbcAbsy w) (.absy w) 3 4 true (fun v t => { t with a := (sbc t.a v t.p).1, p := (sbc t.a v t.p).2 }) s ∧
    Reads (.sbcIndx d) (.indx d) 2 6 false (fun v t => { t with a := (sbc t.a v t.p).1, p := (sbc t.a v t.p).2 }) s ∧
    Reads (.sbcIndy d) (.indy d) 2 5 true (fun v t => { t with a := (sbc t.a v t.p).1, p := (sbc t.a v t.p).2 }) s

/-- Each of the 24 forms completes from every state: A is the bitwise combination, Z and N are from it, C and V do not
change, PC advances by the length, wait is the cost less one with the page-cross bonus, and nothing else changes but
the Timing Unit's read effects. Spec's own decisions it rests on (log 7): D1 (opcode bytes and the forms each
instruction has), D2 (costs and page-cross rows), D15 (no access beyond those listed), D37 (the forms outside the
resolver). Basis: 42_arithmetic_logic_compare.md section 3 (R142 to R144); 40_addressing_and_stack.md section 1
(R109); 92_eei_decisions.md D1, D2, D15, D37. -/
def Obligations.LogicInstructions : Prop :=
  ∀ (s : State) (d : Byte) (w : Word),
    Reads (.andImm d) (.imm d) 2 2 false (fun v t => { t with a := t.a &&& v, p := { t.p with z := decide (t.a &&& v = 0x00#8), n := (t.a &&& v).getLsbD 7 } }) s ∧
    Reads (.andZp d) (.zp d) 2 3 false (fun v t => { t with a := t.a &&& v, p := { t.p with z := decide (t.a &&& v = 0x00#8), n := (t.a &&& v).getLsbD 7 } }) s ∧
    Reads (.andZpx d) (.zpx d) 2 4 false (fun v t => { t with a := t.a &&& v, p := { t.p with z := decide (t.a &&& v = 0x00#8), n := (t.a &&& v).getLsbD 7 } }) s ∧
    Reads (.andAbs w) (.abs w) 3 4 false (fun v t => { t with a := t.a &&& v, p := { t.p with z := decide (t.a &&& v = 0x00#8), n := (t.a &&& v).getLsbD 7 } }) s ∧
    Reads (.andAbsx w) (.absx w) 3 4 true (fun v t => { t with a := t.a &&& v, p := { t.p with z := decide (t.a &&& v = 0x00#8), n := (t.a &&& v).getLsbD 7 } }) s ∧
    Reads (.andAbsy w) (.absy w) 3 4 true (fun v t => { t with a := t.a &&& v, p := { t.p with z := decide (t.a &&& v = 0x00#8), n := (t.a &&& v).getLsbD 7 } }) s ∧
    Reads (.andIndx d) (.indx d) 2 6 false (fun v t => { t with a := t.a &&& v, p := { t.p with z := decide (t.a &&& v = 0x00#8), n := (t.a &&& v).getLsbD 7 } }) s ∧
    Reads (.andIndy d) (.indy d) 2 5 true (fun v t => { t with a := t.a &&& v, p := { t.p with z := decide (t.a &&& v = 0x00#8), n := (t.a &&& v).getLsbD 7 } }) s ∧
    Reads (.oraImm d) (.imm d) 2 2 false (fun v t => { t with a := t.a ||| v, p := { t.p with z := decide (t.a ||| v = 0x00#8), n := (t.a ||| v).getLsbD 7 } }) s ∧
    Reads (.oraZp d) (.zp d) 2 3 false (fun v t => { t with a := t.a ||| v, p := { t.p with z := decide (t.a ||| v = 0x00#8), n := (t.a ||| v).getLsbD 7 } }) s ∧
    Reads (.oraZpx d) (.zpx d) 2 4 false (fun v t => { t with a := t.a ||| v, p := { t.p with z := decide (t.a ||| v = 0x00#8), n := (t.a ||| v).getLsbD 7 } }) s ∧
    Reads (.oraAbs w) (.abs w) 3 4 false (fun v t => { t with a := t.a ||| v, p := { t.p with z := decide (t.a ||| v = 0x00#8), n := (t.a ||| v).getLsbD 7 } }) s ∧
    Reads (.oraAbsx w) (.absx w) 3 4 true (fun v t => { t with a := t.a ||| v, p := { t.p with z := decide (t.a ||| v = 0x00#8), n := (t.a ||| v).getLsbD 7 } }) s ∧
    Reads (.oraAbsy w) (.absy w) 3 4 true (fun v t => { t with a := t.a ||| v, p := { t.p with z := decide (t.a ||| v = 0x00#8), n := (t.a ||| v).getLsbD 7 } }) s ∧
    Reads (.oraIndx d) (.indx d) 2 6 false (fun v t => { t with a := t.a ||| v, p := { t.p with z := decide (t.a ||| v = 0x00#8), n := (t.a ||| v).getLsbD 7 } }) s ∧
    Reads (.oraIndy d) (.indy d) 2 5 true (fun v t => { t with a := t.a ||| v, p := { t.p with z := decide (t.a ||| v = 0x00#8), n := (t.a ||| v).getLsbD 7 } }) s ∧
    Reads (.eorImm d) (.imm d) 2 2 false (fun v t => { t with a := t.a ^^^ v, p := { t.p with z := decide (t.a ^^^ v = 0x00#8), n := (t.a ^^^ v).getLsbD 7 } }) s ∧
    Reads (.eorZp d) (.zp d) 2 3 false (fun v t => { t with a := t.a ^^^ v, p := { t.p with z := decide (t.a ^^^ v = 0x00#8), n := (t.a ^^^ v).getLsbD 7 } }) s ∧
    Reads (.eorZpx d) (.zpx d) 2 4 false (fun v t => { t with a := t.a ^^^ v, p := { t.p with z := decide (t.a ^^^ v = 0x00#8), n := (t.a ^^^ v).getLsbD 7 } }) s ∧
    Reads (.eorAbs w) (.abs w) 3 4 false (fun v t => { t with a := t.a ^^^ v, p := { t.p with z := decide (t.a ^^^ v = 0x00#8), n := (t.a ^^^ v).getLsbD 7 } }) s ∧
    Reads (.eorAbsx w) (.absx w) 3 4 true (fun v t => { t with a := t.a ^^^ v, p := { t.p with z := decide (t.a ^^^ v = 0x00#8), n := (t.a ^^^ v).getLsbD 7 } }) s ∧
    Reads (.eorAbsy w) (.absy w) 3 4 true (fun v t => { t with a := t.a ^^^ v, p := { t.p with z := decide (t.a ^^^ v = 0x00#8), n := (t.a ^^^ v).getLsbD 7 } }) s ∧
    Reads (.eorIndx d) (.indx d) 2 6 false (fun v t => { t with a := t.a ^^^ v, p := { t.p with z := decide (t.a ^^^ v = 0x00#8), n := (t.a ^^^ v).getLsbD 7 } }) s ∧
    Reads (.eorIndy d) (.indy d) 2 5 true (fun v t => { t with a := t.a ^^^ v, p := { t.p with z := decide (t.a ^^^ v = 0x00#8), n := (t.a ^^^ v).getLsbD 7 } }) s

/-- Each of the 14 forms completes from every state: the flags are those of the comparison of A, X or Y with the operand
under CMP_N_RULE (stated of compareFlags in CompareFlagsUnderBothRules), PC advances by the length, wait is the cost
less one with the page-cross bonus, and nothing else changes but the Timing Unit's read effects. Spec's own decisions
it rests on (log 7): D1 (opcode bytes and the forms each instruction has), D2 (costs and page-cross rows), D15 (no
access beyond those listed), D29 (CMP_N_RULE), D37 (the forms outside the resolver). The model's own choices it is
written with: log 2 (DESIGN CHOICE: the parameters stand in State.cfg). Basis: 42_arithmetic_logic_compare.md section
4 (R145 to R147); 92_eei_decisions.md D1, D2, D15, D29, D37. -/
def Obligations.CompareInstructions : Prop :=
  ∀ (s : State) (d : Byte) (w : Word),
    Reads (.cmpImm d) (.imm d) 2 2 false (fun v t => { t with p := compareFlags t.cfg.cmpNRule t.a v t.p }) s ∧
    Reads (.cmpZp d) (.zp d) 2 3 false (fun v t => { t with p := compareFlags t.cfg.cmpNRule t.a v t.p }) s ∧
    Reads (.cmpZpx d) (.zpx d) 2 4 false (fun v t => { t with p := compareFlags t.cfg.cmpNRule t.a v t.p }) s ∧
    Reads (.cmpAbs w) (.abs w) 3 4 false (fun v t => { t with p := compareFlags t.cfg.cmpNRule t.a v t.p }) s ∧
    Reads (.cmpAbsx w) (.absx w) 3 4 true (fun v t => { t with p := compareFlags t.cfg.cmpNRule t.a v t.p }) s ∧
    Reads (.cmpAbsy w) (.absy w) 3 4 true (fun v t => { t with p := compareFlags t.cfg.cmpNRule t.a v t.p }) s ∧
    Reads (.cmpIndx d) (.indx d) 2 6 false (fun v t => { t with p := compareFlags t.cfg.cmpNRule t.a v t.p }) s ∧
    Reads (.cmpIndy d) (.indy d) 2 5 true (fun v t => { t with p := compareFlags t.cfg.cmpNRule t.a v t.p }) s ∧
    Reads (.cpxImm d) (.imm d) 2 2 false (fun v t => { t with p := compareFlags t.cfg.cmpNRule t.x v t.p }) s ∧
    Reads (.cpxZp d) (.zp d) 2 3 false (fun v t => { t with p := compareFlags t.cfg.cmpNRule t.x v t.p }) s ∧
    Reads (.cpxAbs w) (.abs w) 3 4 false (fun v t => { t with p := compareFlags t.cfg.cmpNRule t.x v t.p }) s ∧
    Reads (.cpyImm d) (.imm d) 2 2 false (fun v t => { t with p := compareFlags t.cfg.cmpNRule t.y v t.p }) s ∧
    Reads (.cpyZp d) (.zp d) 2 3 false (fun v t => { t with p := compareFlags t.cfg.cmpNRule t.y v t.p }) s ∧
    Reads (.cpyAbs w) (.abs w) 3 4 false (fun v t => { t with p := compareFlags t.cfg.cmpNRule t.y v t.p }) s

/-- Both forms of BIT complete from every state: N and V are bits 7 and 6 of the memory byte, Z is 1 exactly when A and
the byte have no common bit, C and A do not change, and a read of 0x2002 has its side effect. Spec's own decisions it
rests on (log 7): D1 (opcode bytes and the forms each instruction has), D2 (costs and page-cross rows), D15 (no access
beyond those listed), D35 (instructions the source never names). Basis: 42_arithmetic_logic_compare.md section 5;
92_eei_decisions.md D1, D2, D15, D35. -/
def Obligations.BitTestInstruction : Prop :=
  ∀ (s : State) (d : Byte) (w : Word),
    Reads (.bitZp d) (.zp d) 2 3 false (fun v t => { t with p := { t.p with z := decide (t.a &&& v = 0x00#8), n := v.getLsbD 7, v := v.getLsbD 6 } }) s ∧
    Reads (.bitAbs w) (.abs w) 3 4 false (fun v t => { t with p := { t.p with z := decide (t.a &&& v = 0x00#8), n := v.getLsbD 7, v := v.getLsbD 6 } }) s

/-- Each accumulator shift completes from every state in 2 ticks: A is shifted or rotated by one bit, C is the bit shifted
out, the old carry enters only in ROL and ROR, Z and N are from the result, PC advances by 1 and nothing else changes.
Spec's own decisions it rests on (log 7): D1 (opcode bytes and the forms each instruction has), D2 (costs and page-
cross rows), D37 (the forms outside the resolver). Basis: 43_shift_incdec.md section 1 (R160 to R163, R170);
92_eei_decisions.md D1, D2, D37. -/
def Obligations.AccumulatorShifts : Prop :=
  ∀ s : State,
    ModifiesA .aslAcc 2 (fun v _ => v <<< 1) (fun v r p => { p with c := v.getLsbD 7, z := decide (r = 0x00#8), n := r.getLsbD 7 }) s ∧
    ModifiesA .lsrAcc 2 (fun v _ => v >>> 1) (fun v r p => { p with c := v.getLsbD 0, z := decide (r = 0x00#8), n := r.getLsbD 7 }) s ∧
    ModifiesA .rolAcc 2 (fun v c => BitVec.ofNat 8 (v.toNat * 2 + c.toNat)) (fun v r p => { p with c := v.getLsbD 7, z := decide (r = 0x00#8), n := r.getLsbD 7 }) s ∧
    ModifiesA .rorAcc 2 (fun v c => BitVec.ofNat 8 (v.toNat / 2 + c.toNat * 128)) (fun v r p => { p with c := v.getLsbD 0, z := decide (r = 0x00#8), n := r.getLsbD 7 }) s

/-- Each of the 24 memory forms completes from every well-formed state: the byte at the effective address is read once and
the result stored there once (in the window with both side effects, the read's first), the flags are C, Z, N for
shifts and Z, N for INC and DEC, every other address reads as before, PC advances by the length, wait is the fixed
cost less one whatever the page cross, and nothing else changes. Spec's own decisions it rests on (log 7): D1 (opcode
bytes and the forms each instruction has), D2 (costs and page-cross rows), D15 (no access beyond those listed), D16
(the array cell behind the window). The model's own choices it is written with: log 4 (DESIGN CHOICE: the canonical
form of memory, a hypothesis that shuts out no contents). Basis: 43_shift_incdec.md preamble and sections 1 and 2
(R160 to R165, R170); 70_reset_and_hazards.md section 4; 92_eei_decisions.md D1, D2, D15, D16. -/
def Obligations.MemoryShiftsAndCounts : Prop :=
  ∀ (s : State) (d : Byte) (w : Word), s.wf →
    Modifies (.aslZp d) (.zp d) 2 5 (fun v _ => v <<< 1) (fun v r p => { p with c := v.getLsbD 7, z := decide (r = 0x00#8), n := r.getLsbD 7 }) s ∧
    Modifies (.aslZpx d) (.zpx d) 2 6 (fun v _ => v <<< 1) (fun v r p => { p with c := v.getLsbD 7, z := decide (r = 0x00#8), n := r.getLsbD 7 }) s ∧
    Modifies (.aslAbs w) (.abs w) 3 6 (fun v _ => v <<< 1) (fun v r p => { p with c := v.getLsbD 7, z := decide (r = 0x00#8), n := r.getLsbD 7 }) s ∧
    Modifies (.aslAbsx w) (.absx w) 3 7 (fun v _ => v <<< 1) (fun v r p => { p with c := v.getLsbD 7, z := decide (r = 0x00#8), n := r.getLsbD 7 }) s ∧
    Modifies (.lsrZp d) (.zp d) 2 5 (fun v _ => v >>> 1) (fun v r p => { p with c := v.getLsbD 0, z := decide (r = 0x00#8), n := r.getLsbD 7 }) s ∧
    Modifies (.lsrZpx d) (.zpx d) 2 6 (fun v _ => v >>> 1) (fun v r p => { p with c := v.getLsbD 0, z := decide (r = 0x00#8), n := r.getLsbD 7 }) s ∧
    Modifies (.lsrAbs w) (.abs w) 3 6 (fun v _ => v >>> 1) (fun v r p => { p with c := v.getLsbD 0, z := decide (r = 0x00#8), n := r.getLsbD 7 }) s ∧
    Modifies (.lsrAbsx w) (.absx w) 3 7 (fun v _ => v >>> 1) (fun v r p => { p with c := v.getLsbD 0, z := decide (r = 0x00#8), n := r.getLsbD 7 }) s ∧
    Modifies (.rolZp d) (.zp d) 2 5 (fun v c => BitVec.ofNat 8 (v.toNat * 2 + c.toNat)) (fun v r p => { p with c := v.getLsbD 7, z := decide (r = 0x00#8), n := r.getLsbD 7 }) s ∧
    Modifies (.rolZpx d) (.zpx d) 2 6 (fun v c => BitVec.ofNat 8 (v.toNat * 2 + c.toNat)) (fun v r p => { p with c := v.getLsbD 7, z := decide (r = 0x00#8), n := r.getLsbD 7 }) s ∧
    Modifies (.rolAbs w) (.abs w) 3 6 (fun v c => BitVec.ofNat 8 (v.toNat * 2 + c.toNat)) (fun v r p => { p with c := v.getLsbD 7, z := decide (r = 0x00#8), n := r.getLsbD 7 }) s ∧
    Modifies (.rolAbsx w) (.absx w) 3 7 (fun v c => BitVec.ofNat 8 (v.toNat * 2 + c.toNat)) (fun v r p => { p with c := v.getLsbD 7, z := decide (r = 0x00#8), n := r.getLsbD 7 }) s ∧
    Modifies (.rorZp d) (.zp d) 2 5 (fun v c => BitVec.ofNat 8 (v.toNat / 2 + c.toNat * 128)) (fun v r p => { p with c := v.getLsbD 0, z := decide (r = 0x00#8), n := r.getLsbD 7 }) s ∧
    Modifies (.rorZpx d) (.zpx d) 2 6 (fun v c => BitVec.ofNat 8 (v.toNat / 2 + c.toNat * 128)) (fun v r p => { p with c := v.getLsbD 0, z := decide (r = 0x00#8), n := r.getLsbD 7 }) s ∧
    Modifies (.rorAbs w) (.abs w) 3 6 (fun v c => BitVec.ofNat 8 (v.toNat / 2 + c.toNat * 128)) (fun v r p => { p with c := v.getLsbD 0, z := decide (r = 0x00#8), n := r.getLsbD 7 }) s ∧
    Modifies (.rorAbsx w) (.absx w) 3 7 (fun v c => BitVec.ofNat 8 (v.toNat / 2 + c.toNat * 128)) (fun v r p => { p with c := v.getLsbD 0, z := decide (r = 0x00#8), n := r.getLsbD 7 }) s ∧
    Modifies (.incZp d) (.zp d) 2 5 (fun v _ => v + 1#8) (fun _ r p => { p with z := decide (r = 0x00#8), n := r.getLsbD 7 }) s ∧
    Modifies (.incZpx d) (.zpx d) 2 6 (fun v _ => v + 1#8) (fun _ r p => { p with z := decide (r = 0x00#8), n := r.getLsbD 7 }) s ∧
    Modifies (.incAbs w) (.abs w) 3 6 (fun v _ => v + 1#8) (fun _ r p => { p with z := decide (r = 0x00#8), n := r.getLsbD 7 }) s ∧
    Modifies (.incAbsx w) (.absx w) 3 7 (fun v _ => v + 1#8) (fun _ r p => { p with z := decide (r = 0x00#8), n := r.getLsbD 7 }) s ∧
    Modifies (.decZp d) (.zp d) 2 5 (fun v _ => v - 1#8) (fun _ r p => { p with z := decide (r = 0x00#8), n := r.getLsbD 7 }) s ∧
    Modifies (.decZpx d) (.zpx d) 2 6 (fun v _ => v - 1#8) (fun _ r p => { p with z := decide (r = 0x00#8), n := r.getLsbD 7 }) s ∧
    Modifies (.decAbs w) (.abs w) 3 6 (fun v _ => v - 1#8) (fun _ r p => { p with z := decide (r = 0x00#8), n := r.getLsbD 7 }) s ∧
    Modifies (.decAbsx w) (.absx w) 3 7 (fun v _ => v - 1#8) (fun _ r p => { p with z := decide (r = 0x00#8), n := r.getLsbD 7 }) s

/-- Each branch completes from every state: not taken, PC goes to the next instruction at a cost of 2; taken, to that
address plus the signed offset mod 0x10000 at a cost of 3, or 4 if the page differs from that of the next instruction;
no flag, register or cell changes. Spec's own decisions it rests on (log 7): D1 (opcode bytes and the forms each
instruction has), D2 (costs and page-cross rows), D27 (the page a branch is compared with), D37 (the forms outside the
resolver). Basis: 44_control_transfer.md section 1 (R180 to R188); 90_conflicts.md C2; 92_eei_decisions.md D1, D2,
D27, D37. -/
def Obligations.BranchInstructions : Prop :=
  ∀ (s : State) (d : Byte),
    Branches (.bcc d) (s.p.c = false) d s ∧
    Branches (.bcs d) (s.p.c = true) d s ∧
    Branches (.beq d) (s.p.z = true) d s ∧
    Branches (.bne d) (s.p.z = false) d s ∧
    Branches (.bpl d) (s.p.n = false) d s ∧
    Branches (.bmi d) (s.p.n = true) d s ∧
    Branches (.bvc d) (s.p.v = false) d s ∧
    Branches (.bvs d) (s.p.v = true) d s

/-- JMP loads PC from the operand; JMP indirect from the pointer whose high byte is read in the same page, with the reads'
side effects in order; JSR pushes the address of its own last byte, high byte first, and jumps; RTS loads PC from the
two popped bytes plus 1. The costs are 3, 5, 6, 6, no flag changes, and nothing else changes but the two stack cells
of JSR and SP. Spec's own decisions it rests on (log 7): D1 (opcode bytes and the forms each instruction has), D2
(costs and page-cross rows), D15 (no access beyond those listed), D37 (the forms outside the resolver), D41 (the
access path of pointers and vectors), D43 (the access path of the stack). The model's own choices it is written with:
log 4 (DESIGN CHOICE: the canonical form of memory, a hypothesis that shuts out no contents). Basis:
44_control_transfer.md sections 2 and 3 (R189 to R191); 92_eei_decisions.md D1, D2, D15, D37, D41, D43. -/
def Obligations.JumpCallAndReturn : Prop :=
  ∀ (s : State) (w : Word), s.mem.wf →
    exec (.jmpAbs w) s = .next { s with pc := w, wait := 2 } ∧
    (let lo := memRead w s;
      let hi := memRead (word (hiByte w) (loByte w + 1#8)) lo.2;
      exec (.jmpInd w) s = .next { s with pc := word hi.1 lo.1, wait := 4, ppu := hi.2.ppu }) ∧
    (∃ t, exec (.jsr w) s = .next t ∧
      rawRead (word 0x01#8 s.sp) t = hiByte (s.pc + 2#16) ∧
      rawRead (word 0x01#8 (s.sp - 1#8)) t = loByte (s.pc + 2#16) ∧
      (∀ a : Word, mirror a ≠ word 0x01#8 s.sp → mirror a ≠ word 0x01#8 (s.sp - 1#8) →
        rawRead a t = rawRead a s) ∧
      t = { s with sp := s.sp - 2#8, pc := w, wait := 5, mem := t.mem }) ∧
    exec .rts s = .next { s with
      pc := word (rawRead (word 0x01#8 (s.sp + 2#8)) s) (rawRead (word 0x01#8 (s.sp + 1#8)) s) + 1#16
      sp := s.sp + 2#8
      wait := 5 }

/-- Each completes from every state in 2 ticks, writes its one flag (NOP writes none), advances PC by 1, and changes
nothing else. Spec's own decisions it rests on (log 7): D1 (opcode bytes and the forms each instruction has), D2
(costs and page-cross rows), D35 (instructions the source never names). Basis: 45_flags_system.md sections 1 and 2;
92_eei_decisions.md D1, D2, D35. -/
def Obligations.FlagInstructionsAndNop : Prop :=
  ∀ s : State,
    exec .clc s = .next { s with p := { s.p with c := false }, pc := s.pc + 1#16, wait := 1 } ∧
    exec .sec s = .next { s with p := { s.p with c := true }, pc := s.pc + 1#16, wait := 1 } ∧
    exec .cli s = .next { s with p := { s.p with i := false }, pc := s.pc + 1#16, wait := 1 } ∧
    exec .sei s = .next { s with p := { s.p with i := true }, pc := s.pc + 1#16, wait := 1 } ∧
    exec .clv s = .next { s with p := { s.p with v := false }, pc := s.pc + 1#16, wait := 1 } ∧
    exec .cld s = .next { s with p := { s.p with d := false }, pc := s.pc + 1#16, wait := 1 } ∧
    exec .sed s = .next { s with p := { s.p with d := true }, pc := s.pc + 1#16, wait := 1 } ∧
    exec .nop s = .next { s with pc := s.pc + 1#16, wait := 1 }

/-- From every state with memory in canonical form BRK completes: the stack gets the high and low byte of its address plus
2 and the status copy with bit 4 = 1 and the old I, I is set, D is kept, PC is the word at 0xFFFE, SP drops by 3, wait
is INT_COST - 1, nothing else changes. RTI completes: the six flags come from the first popped byte, PC from the next
two with nothing added, SP rises by 3, at a cost of 6. Spec's own decisions it rests on (log 7): D1 (opcode bytes and
the forms each instruction has), D2 (costs and page-cross rows), D4 (bits 4 and 5 of a status copy), D8 (the return
address of BRK), D9 (the cost of an entry), D32 (the bit order of the status byte), D35 (instructions the source never
names), D36 (bits 4 and 5 in PHP, PLP and RTI), D41 (the access path of pointers and vectors), D42 (an entry keeps D),
D43 (the access path of the stack). The model's own choices it is written with: log 2 (DESIGN CHOICE: the parameters
stand in State.cfg); log 4 (DESIGN CHOICE: the canonical form of memory, a hypothesis that shuts out no contents).
Basis: 45_flags_system.md section 3 (R208); 60_exceptions.md section 3 (R263); 92_eei_decisions.md D1, D2, D4, D8, D9,
D32, D35, D36, D41, D42, D43. -/
def Obligations.BreakEntersAndRtiReturns : Prop :=
  ∀ s : State, s.mem.wf →
    (∃ t, exec .brk s = .next t ∧ Enters (s.pc + 2#16) true 0xFFFE#16 s t) ∧
    (let v := rawRead (word 0x01#8 (s.sp + 1#8)) s;
      exec .rti s = .next { s with
        p := { n := v.getLsbD 7, v := v.getLsbD 6, d := v.getLsbD 3, i := v.getLsbD 2, z := v.getLsbD 1,
               c := v.getLsbD 0 }
        pc := word (rawRead (word 0x01#8 (s.sp + 3#8)) s) (rawRead (word 0x01#8 (s.sp + 2#8)) s)
        sp := s.sp + 3#8
        wait := 5 })

/-- AAC completes from every state with A and the operand in A, Z and N from it and C equal to N, V unchanged; ARR with
that value rotated right through the old carry, Z and N from it, C from its bit 6 and V from its bits 6 and 5. Both
take 2 bytes and 2 ticks and change nothing else. Spec's own decisions it rests on (log 7): D2 (costs and page-cross
rows), D3 (the optional instructions), D37 (the forms outside the resolver). The model's own choices it is written
with: log 3 (DESIGN CHOICE: exec gives AAC, AAX and ARR their meaning whatever UNOFFICIAL is, since the option is read
by the decoder only; where it is false R220 makes their bytes UnknownOpcode, and the step does so). Basis:
48_unofficial.md (AAC, ARR); 92_eei_decisions.md D2, D3, D37. -/
def Obligations.OptionalAndInstructions : Prop :=
  ∀ (s : State) (d : Byte),
    Reads (.aac0B d) (.imm d) 2 2 false (fun v t => { t with a := t.a &&& v, p := { t.p with z := decide (t.a &&& v = 0x00#8), n := (t.a &&& v).getLsbD 7, c := (t.a &&& v).getLsbD 7 } }) s ∧
    Reads (.aac2B d) (.imm d) 2 2 false (fun v t => { t with a := t.a &&& v, p := { t.p with z := decide (t.a &&& v = 0x00#8), n := (t.a &&& v).getLsbD 7, c := (t.a &&& v).getLsbD 7 } }) s ∧
    Reads (.arr d) (.imm d) 2 2 false (fun v t => let r : Byte := BitVec.ofNat 8 ((t.a &&& v).toNat / 2 + t.p.c.toNat * 128); { t with a := r, p := { t.p with z := decide (r = 0x00#8), n := r.getLsbD 7, c := r.getLsbD 6, v := r.getLsbD 6 ^^ r.getLsbD 5 } }) s

/-- From every well-formed state, halted or not, a CpuReset call gives A = X = Y = 0, SP = 0xFD, the flags P_RESET, wait =
RESET_COST, no halt record, no pending NMI, PC from the cells 0xFFFC and 0xFFFD, zero in every cell of APU_ZERO_SET,
and leaves every other cell and all Timing Unit state as they were. Spec's own decisions it rests on (log 7): D5 (the
flags after reset), D6 (wait after reset), D7 (the cells reset zeroes), D14 (fetch past the bridge), D28 (the contents
before reset), D40 (reset clears nmi_pending and halted). The model's own choices it is written with: log 1 (DESIGN
CHOICE: a step is one call of the host, and the calls stand in State.host); log 2 (DESIGN CHOICE: the parameters stand
in State.cfg); log 4 (DESIGN CHOICE: the canonical form of memory, a hypothesis that shuts out no contents). Basis:
70_reset_and_hazards.md section 1 (R290, R292); 92_eei_decisions.md D5, D6, D7, D14, D28, D40. -/
def Obligations.CpuResetLeavesItsValues : Prop :=
  ∀ (s : State) (rest : List HostCall), s.wf → s.host = .cpuReset :: rest →
    ∃ t, step s = .next t ∧
      (∀ a ∈ s.cfg.apuZeroSet, rawRead a t = 0x00#8) ∧
      (∀ b : Word, (∀ a ∈ s.cfg.apuZeroSet, mirror b ≠ mirror a) → rawRead b t = rawRead b s) ∧
      t = { s with
        a := 0x00#8, x := 0x00#8, y := 0x00#8, sp := 0xFD#8
        p := s.cfg.pReset
        pc := word (rawRead 0xFFFD#16 t) (rawRead 0xFFFC#16 t)
        wait := s.cfg.resetCost, halted := none, nmiPending := false
        mem := t.mem, host := rest }

/-- A PpuReset call from any state gives cycle, scanline, odd, ctrl, mask, status, w, ptr and buf the value 0 and changes
neither video memory nor anything of the CPU. Spec's own decisions it rests on (log 7): D24 (the Timing Unit reset
values). The model's own choices it is written with: log 1 (DESIGN CHOICE: a step is one call of the host, and the
calls stand in State.host). Basis: 70_reset_and_hazards.md section 1 (R293, R294); 92_eei_decisions.md D24. -/
def Obligations.PpuResetLeavesItsValues : Prop :=
  ∀ (s : State) (rest : List HostCall), s.host = .ppuReset :: rest →
    step s = .next { s with
      host := rest
      ppu := { cycle := 0, scanline := 0, odd := false, ctrl := 0x00#8, mask := 0x00#8, status := 0x00#8,
               w := false, ptr := 0#14, buf := 0x00#8, vram := s.ppu.vram } }

/-- For every program image of 0x4000 or 0x8000 bytes and character image of at most 0x4000 bytes, with the zeroed
addresses inside 0x4000 to 0x401F and mem0 and vram0 in canonical form (the model's own form, log 4): boot answers a
running state in which 0x8000 + i reads byte i of the image, 0xC000 + i reads byte i of a single bank, every address
of the zeroed set reads 0 and every other array cell below 0x8000 reads as in mem0, video memory reads the character
data and past it as in vram0, PC is the word three and four bytes before the image's end, the registers, Timing Unit
and wait are as after reset, and the parameters and the calls are those given. R296 describes character data of whole
8 KB banks; that boot takes every length up to 0x4000 is the model's choice (log 9, DEDUCED), and that the calls and
parameters stand in State is too (logs 1, 2, DESIGN CHOICE). Spec's own decisions it rests on (log 7): D5 (the flags
after reset), D6 (wait after reset), D7 (the cells reset zeroes), D14 (fetch past the bridge), D24 (the Timing Unit
reset values), D28 (the contents before reset), D40 (reset clears nmi_pending and halted), D46 (the host write path).
Basis: 70_reset_and_hazards.md sections 1 and 2 (R292, R296); 20_memory.md section 2 (R44); 92_eei_decisions.md D5,
D6, D7, D14, D24, D28, D40, D46. -/
def Obligations.BootPlacesTheImageAndStartsAtItsVector : Prop :=
  ∀ (prg chr : List Byte) (mem0 vram0 : Memory) (cfg : Config) (calls : List HostCall),
    mem0.wf → vram0.wf → (∀ a ∈ cfg.apuZeroSet, 0x4000 ≤ a.toNat ∧ a.toNat ≤ 0x401F) →
    (prg.length = 0x4000 ∨ prg.length = 0x8000) → chr.length ≤ 0x4000 →
    ∃ t, boot prg chr mem0 vram0 cfg calls = .next t ∧
      (∀ i < prg.length, rawRead (BitVec.ofNat 16 (0x8000 + i)) t = prg.getD i 0x00#8) ∧
      (prg.length = 0x4000 → ∀ i < 0x4000, rawRead (BitVec.ofNat 16 (0xC000 + i)) t = prg.getD i 0x00#8) ∧
      (∀ k < 0x8000, (∀ a ∈ cfg.apuZeroSet, k ≠ a.toNat) → t.mem.read k = mem0.read k) ∧
      (∀ a ∈ cfg.apuZeroSet, rawRead a t = 0x00#8) ∧
      (∀ i < chr.length, t.ppu.vram.read i = chr.getD i 0x00#8) ∧
      (∀ i, chr.length ≤ i → t.ppu.vram.read i = vram0.read i) ∧
      t = { a := 0x00#8, x := 0x00#8, y := 0x00#8, sp := 0xFD#8
            pc := word (prg.getD (prg.length - 3) 0x00#8) (prg.getD (prg.length - 4) 0x00#8)
            p := cfg.pReset, wait := cfg.resetCost, halted := none, nmiPending := false, mem := t.mem
            ppu := { TimingUnit.reset with vram := t.ppu.vram }, host := calls, cfg := cfg }

/-- A Scheduler tick in any state changes nothing but the CPU's registers, wait, halted and mem, and of the Timing Unit
ctrl, mask, w, ptr, buf, vram and bit 7 of status, which it can only clear; of nmi_pending it can only clear it. A
Timing Unit tick changes nothing but cycle, scanline, odd, status and nmi_pending, which it can only set, and what it
does depends on no register of the window but ctrl and status. A host call that is no system tick, made on a well-
formed state, leaves video memory as it is and every cell outside the set that CpuReset zeroes. That the calls after
boot are the tick and the two resets is the model's reading (log 1). Spec's own decisions it rests on (log 7): D11
(the nmi_pending latch, NMI before IRQ), D30 (the bits of ctrl and status), D33 (no NMI but from the vblank event).
The model's own choices it is written with: log 2 (DESIGN CHOICE: the parameters stand in State.cfg); log 4 (DESIGN
CHOICE: the canonical form of memory, a hypothesis that shuts out no contents); log 6 (DEDUCED: a halt and the ticks
after it are next states). Basis: 20_memory.md section 7 (R62); 60_exceptions.md section 6 (R285);
70_reset_and_hazards.md sections 1 and 2 (R294, R296); 92_eei_decisions.md D11, D30, D33. -/
def Obligations.EachAgentWritesItsOwnState : Prop :=
  (∀ (irq : Bool) (s : State), ∃ t, cpuTick irq s = .next t ∧
    (t.nmiPending = s.nmiPending ∨ t.nmiPending = false) ∧
    (t.ppu.status = s.ppu.status ∨ t.ppu.status = s.ppu.status &&& 0x7F#8) ∧
    t = { t with
      cfg := s.cfg, host := s.host
      ppu := { t.ppu with cycle := s.ppu.cycle, scanline := s.ppu.scanline, odd := s.ppu.odd } }) ∧
  (∀ (s : State) (mask : Byte) (w : Bool) (ptr : VAddr) (buf : Byte) (vram : Memory),
    (s.nmiPending = true → (ppuTick s).nmiPending = true) ∧
    (let u := (ppuTick s).ppu;
      ppuTick { s with ppu := { s.ppu with mask := mask, w := w, ptr := ptr, buf := buf, vram := vram } } = { s with
        nmiPending := (ppuTick s).nmiPending
        ppu := { cycle := u.cycle, scanline := u.scanline, odd := u.odd, status := u.status, ctrl := s.ppu.ctrl
                 mask := mask, w := w, ptr := ptr, buf := buf, vram := vram } })) ∧
  (∀ s t : State, s.wf → s.nextIrq = none → step s = .next t →
    t.ppu.vram = s.ppu.vram ∧
    ∀ b : Word, (∀ a ∈ s.cfg.apuZeroSet, mirror b ≠ mirror a) → rawRead b t = rawRead b s)
end

