-- ==== Sys2Proof/Laws/Bits.lean ====
section
/-! SUPPORT. The byte and bit-field helpers as arithmetic (00_scope.md R7), and that the halves of a word make it. -/

namespace Sys2Proof

theorem word_toNat (hi lo : Byte) : (word hi lo).toNat = hi.toNat * 256 + lo.toNat := by
  unfold word
  rw [BitVec.toNat_append, ← Nat.shiftLeft_add_eq_or_of_lt lo.isLt, Nat.shiftLeft_eq]

theorem loByte_toNat (w : Word) : (loByte w).toNat = w.toNat % 256 := by
  simp [loByte, BitVec.extractLsb'_toNat]

theorem hiByte_toNat (w : Word) : (hiByte w).toNat = w.toNat / 256 := by
  have := w.isLt
  simp only [hiByte, BitVec.extractLsb'_toNat, Nat.shiftRight_eq_div_pow]
  omega

theorem page_toNat (w : Word) : (page w).toNat = w.toNat / 256 := hiByte_toNat w

theorem zeroPage_toNat (d : Byte) : (zeroPage d).toNat = d.toNat := by
  have := d.isLt
  simp only [zeroPage, BitVec.toNat_setWidth]
  omega

@[simp] theorem loByte_word (hi lo : Byte) : loByte (word hi lo) = lo := by
  have := lo.isLt
  apply BitVec.eq_of_toNat_eq
  rw [loByte_toNat, word_toNat]
  omega

@[simp] theorem hiByte_word (hi lo : Byte) : hiByte (word hi lo) = hi := by
  have := lo.isLt
  apply BitVec.eq_of_toNat_eq
  rw [hiByte_toNat, word_toNat]
  omega

/-- The two halves of a word make the word. -/
@[simp] theorem word_halves (w : Word) : word (hiByte w) (loByte w) = w := by
  apply BitVec.eq_of_toNat_eq
  rw [word_toNat, hiByte_toNat, loByte_toNat]
  omega

end Sys2Proof
end

