-- ==== Sys2Proof/Laws/Memory.lean ====
section
/-! SUPPORT. The laws of a canonical memory: reading after writing, and that writing keeps the form and the bounds. The
mapping function as arithmetic. -/

namespace Sys2Proof.Machine

theorem Memory.read_nil (a : Nat) : Memory.read [] a = Memory.unlisted := rfl

theorem Memory.read_cons (c : Host.Cell) (rest : Memory) (a : Nat) :
    Memory.read (c :: rest) a = if c.1 = a then c.2 else Memory.read rest a := rfl

theorem Memory.read_write_other (m : Memory) {a k : Nat} (v : Byte) (h : k ≠ a) :
    (m.write a v).read k = m.read k := by
  induction m with
  | nil =>
    by_cases hv : v = Memory.unlisted <;> simp [Memory.write, Memory.read, hv, h.symm]
  | cons c rest ih =>
    have hck : a = c.1 → c.1 ≠ k := fun hac hc => h (hac.trans hc).symm
    simp only [Memory.write]
    split_ifs with h1 h2 h3 h4 <;> simp_all [Memory.read_cons, h.symm]

theorem Memory.read_above {m : Memory} {a : Nat} (h : ∀ p ∈ m, a < p.1) : m.read a = Memory.unlisted := by
  induction m with
  | nil => rfl
  | cons c rest ih =>
    rw [Memory.read_cons, if_neg (Nat.ne_of_gt (h c (by simp))), ih fun p hp => h p (by simp [hp])]

theorem Memory.read_write_same {m : Memory} (hm : m.wf) (a : Nat) (v : Byte) : (m.write a v).read a = v := by
  induction m with
  | nil => by_cases hv : v = Memory.unlisted <;> simp [Memory.write, Memory.read, hv]
  | cons c rest ih =>
    obtain ⟨hs, hn⟩ := hm
    rw [List.pairwise_cons] at hs
    simp only [Memory.write]
    split_ifs with h1 hv h2 hv
    · rw [Memory.read_above, hv]
      intro p hp
      rcases List.mem_cons.mp hp with rfl | hp
      · exact h1
      · exact h1.trans (hs.1 p hp)
    · simp [Memory.read_cons]
    · rw [Memory.read_above, hv]
      intro p hp
      rw [h2]
      exact hs.1 p hp
    · simp [Memory.read_cons]
    · rw [Memory.read_cons, if_neg (Ne.symm h2)]
      exact ih ⟨hs.2, fun p hp => hn p (by simp [hp])⟩

/-- Every entry of the written memory is the new cell or an old entry. -/
theorem Memory.mem_write {m : Memory} {a : Nat} {v : Byte} {p : Host.Cell} (h : p ∈ m.write a v) :
    (p = (a, v) ∧ v ≠ Memory.unlisted) ∨ p ∈ m := by
  induction m with
  | nil =>
    by_cases hv : v = Memory.unlisted
    · simp [Memory.write, hv] at h
    · simp [Memory.write, hv] at h
      exact .inl ⟨h, hv⟩
  | cons c rest ih =>
    simp only [Memory.write] at h
    split_ifs at h with h1 hv h2 hv
    · exact .inr h
    · rcases List.mem_cons.mp h with rfl | h
      · exact .inl ⟨rfl, hv⟩
      · exact .inr h
    · exact .inr (List.mem_cons_of_mem _ h)
    · rcases List.mem_cons.mp h with rfl | h
      · exact .inl ⟨rfl, hv⟩
      · exact .inr (List.mem_cons_of_mem _ h)
    · rcases List.mem_cons.mp h with rfl | h
      · exact .inr List.mem_cons_self
      · exact (ih h).imp id (List.mem_cons_of_mem _)

theorem Memory.write_wf {m : Memory} (hm : m.wf) (a : Nat) (v : Byte) : (m.write a v).wf := by
  refine ⟨?_, fun p hp => ?_⟩
  · induction m with
    | nil => by_cases hv : v = Memory.unlisted <;> simp [Memory.write, hv]
    | cons c rest ih =>
      obtain ⟨hs, hn⟩ := hm
      have hs' := List.pairwise_cons.mp hs
      simp only [Memory.write]
      split_ifs with h1 hv h2 hv
      · exact hs
      · refine List.pairwise_cons.mpr ⟨fun p hp => ?_, hs⟩
        rcases List.mem_cons.mp hp with rfl | hp
        · exact h1
        · exact h1.trans (hs'.1 p hp)
      · exact hs'.2
      · exact List.pairwise_cons.mpr ⟨fun p hp => h2 ▸ hs'.1 p hp, hs'.2⟩
      · refine List.pairwise_cons.mpr ⟨fun p hp => ?_, ih ⟨hs'.2, fun p hp => hn p (by simp [hp])⟩⟩
        rcases Memory.mem_write hp with ⟨rfl, -⟩ | hp
        · exact Nat.lt_of_le_of_ne (Nat.not_lt.mp h1) (Ne.symm h2)
        · exact hs'.1 p hp
  · rcases Memory.mem_write hp with ⟨rfl, hv⟩ | hp
    · exact hv
    · exact hm.2 p hp

theorem Memory.write_within {m : Memory} {size a : Nat} (hm : m.within size) (ha : a < size) (v : Byte) :
    (m.write a v).within size := fun p hp => by
  rcases Memory.mem_write hp with ⟨rfl, -⟩ | hp
  · exact ha
  · exact hm p hp

/-! ## The mapping function -/

/-- `map` as arithmetic on the address (20_memory.md R41). -/
theorem mirror_toNat (a : Word) : (mirror a).toNat =
    if 0x07FF < a.toNat ∧ a.toNat < 0x2000 then a.toNat % 0x800
    else if 0x2007 < a.toNat ∧ a.toNat < 0x4000 then 0x2000 + a.toNat % 8
    else a.toNat := by
  have h1 : a.toNat &&& 0x07FF = a.toNat % 0x800 := Nat.and_two_pow_sub_one_eq_mod a.toNat 11
  have h2 : a.toNat &&& 0x0007 = a.toNat % 8 := Nat.and_two_pow_sub_one_eq_mod a.toNat 3
  simp only [mirror, BitVec.lt_def, BitVec.toNat_ofNat]
  split_ifs <;> simp_all <;> omega

theorem mirror_lt (a : Word) : (mirror a).toNat < 0x10000 := (mirror a).isLt

/-- `map` never answers a mirror cell (20_memory.md R42). -/
theorem mirror_image (a : Word) (k : Nat) (h : (0x0800 ≤ k ∧ k < 0x2000) ∨ (0x2008 ≤ k ∧ k < 0x4000)) :
    k ≠ (mirror a).toNat := by
  rw [mirror_toNat]
  split_ifs <;> omega

theorem mirror_of_lt {a : Word} (h : a.toNat ≤ 0x07FF) : mirror a = a := by
  apply BitVec.eq_of_toNat_eq
  rw [mirror_toNat]
  split_ifs <;> omega

theorem mirror_of_ge {a : Word} (h : 0x4000 ≤ a.toNat) : mirror a = a := by
  apply BitVec.eq_of_toNat_eq
  rw [mirror_toNat]
  split_ifs <;> omega

end Sys2Proof.Machine
end

