-- ==== Sys2Proof/Laws/State.lean ====
section
/-! SUPPORT. The fields of a state after each field update: one lemma per field per update. -/

namespace Sys2Proof.Machine

section
variable (s : State) (v : Byte)

@[simp] theorem State.setA_a : (s.setA v).a = v := rfl
@[simp] theorem State.setA_x : (s.setA v).x = s.x := rfl
@[simp] theorem State.setA_y : (s.setA v).y = s.y := rfl
@[simp] theorem State.setA_sp : (s.setA v).sp = s.sp := rfl
@[simp] theorem State.setA_pc : (s.setA v).pc = s.pc := rfl
@[simp] theorem State.setA_p : (s.setA v).p = s.p := rfl
@[simp] theorem State.setA_wait : (s.setA v).wait = s.wait := rfl
@[simp] theorem State.setA_halted : (s.setA v).halted = s.halted := rfl
@[simp] theorem State.setA_nmiPending : (s.setA v).nmiPending = s.nmiPending := rfl
@[simp] theorem State.setA_mem : (s.setA v).mem = s.mem := rfl
@[simp] theorem State.setA_ppu : (s.setA v).ppu = s.ppu := rfl
@[simp] theorem State.setA_host : (s.setA v).host = s.host := rfl
@[simp] theorem State.setA_cfg : (s.setA v).cfg = s.cfg := rfl

end

section
variable (s : State) (v : Byte)

@[simp] theorem State.setX_a : (s.setX v).a = s.a := rfl
@[simp] theorem State.setX_x : (s.setX v).x = v := rfl
@[simp] theorem State.setX_y : (s.setX v).y = s.y := rfl
@[simp] theorem State.setX_sp : (s.setX v).sp = s.sp := rfl
@[simp] theorem State.setX_pc : (s.setX v).pc = s.pc := rfl
@[simp] theorem State.setX_p : (s.setX v).p = s.p := rfl
@[simp] theorem State.setX_wait : (s.setX v).wait = s.wait := rfl
@[simp] theorem State.setX_halted : (s.setX v).halted = s.halted := rfl
@[simp] theorem State.setX_nmiPending : (s.setX v).nmiPending = s.nmiPending := rfl
@[simp] theorem State.setX_mem : (s.setX v).mem = s.mem := rfl
@[simp] theorem State.setX_ppu : (s.setX v).ppu = s.ppu := rfl
@[simp] theorem State.setX_host : (s.setX v).host = s.host := rfl
@[simp] theorem State.setX_cfg : (s.setX v).cfg = s.cfg := rfl

end

section
variable (s : State) (v : Byte)

@[simp] theorem State.setY_a : (s.setY v).a = s.a := rfl
@[simp] theorem State.setY_x : (s.setY v).x = s.x := rfl
@[simp] theorem State.setY_y : (s.setY v).y = v := rfl
@[simp] theorem State.setY_sp : (s.setY v).sp = s.sp := rfl
@[simp] theorem State.setY_pc : (s.setY v).pc = s.pc := rfl
@[simp] theorem State.setY_p : (s.setY v).p = s.p := rfl
@[simp] theorem State.setY_wait : (s.setY v).wait = s.wait := rfl
@[simp] theorem State.setY_halted : (s.setY v).halted = s.halted := rfl
@[simp] theorem State.setY_nmiPending : (s.setY v).nmiPending = s.nmiPending := rfl
@[simp] theorem State.setY_mem : (s.setY v).mem = s.mem := rfl
@[simp] theorem State.setY_ppu : (s.setY v).ppu = s.ppu := rfl
@[simp] theorem State.setY_host : (s.setY v).host = s.host := rfl
@[simp] theorem State.setY_cfg : (s.setY v).cfg = s.cfg := rfl

end

section
variable (s : State) (v : Byte)

@[simp] theorem State.setSp_a : (s.setSp v).a = s.a := rfl
@[simp] theorem State.setSp_x : (s.setSp v).x = s.x := rfl
@[simp] theorem State.setSp_y : (s.setSp v).y = s.y := rfl
@[simp] theorem State.setSp_sp : (s.setSp v).sp = v := rfl
@[simp] theorem State.setSp_pc : (s.setSp v).pc = s.pc := rfl
@[simp] theorem State.setSp_p : (s.setSp v).p = s.p := rfl
@[simp] theorem State.setSp_wait : (s.setSp v).wait = s.wait := rfl
@[simp] theorem State.setSp_halted : (s.setSp v).halted = s.halted := rfl
@[simp] theorem State.setSp_nmiPending : (s.setSp v).nmiPending = s.nmiPending := rfl
@[simp] theorem State.setSp_mem : (s.setSp v).mem = s.mem := rfl
@[simp] theorem State.setSp_ppu : (s.setSp v).ppu = s.ppu := rfl
@[simp] theorem State.setSp_host : (s.setSp v).host = s.host := rfl
@[simp] theorem State.setSp_cfg : (s.setSp v).cfg = s.cfg := rfl

end

section
variable (s : State) (v : Word)

@[simp] theorem State.setPc_a : (s.setPc v).a = s.a := rfl
@[simp] theorem State.setPc_x : (s.setPc v).x = s.x := rfl
@[simp] theorem State.setPc_y : (s.setPc v).y = s.y := rfl
@[simp] theorem State.setPc_sp : (s.setPc v).sp = s.sp := rfl
@[simp] theorem State.setPc_pc : (s.setPc v).pc = v := rfl
@[simp] theorem State.setPc_p : (s.setPc v).p = s.p := rfl
@[simp] theorem State.setPc_wait : (s.setPc v).wait = s.wait := rfl
@[simp] theorem State.setPc_halted : (s.setPc v).halted = s.halted := rfl
@[simp] theorem State.setPc_nmiPending : (s.setPc v).nmiPending = s.nmiPending := rfl
@[simp] theorem State.setPc_mem : (s.setPc v).mem = s.mem := rfl
@[simp] theorem State.setPc_ppu : (s.setPc v).ppu = s.ppu := rfl
@[simp] theorem State.setPc_host : (s.setPc v).host = s.host := rfl
@[simp] theorem State.setPc_cfg : (s.setPc v).cfg = s.cfg := rfl

end

section
variable (s : State) (v : Flags)

@[simp] theorem State.setP_a : (s.setP v).a = s.a := rfl
@[simp] theorem State.setP_x : (s.setP v).x = s.x := rfl
@[simp] theorem State.setP_y : (s.setP v).y = s.y := rfl
@[simp] theorem State.setP_sp : (s.setP v).sp = s.sp := rfl
@[simp] theorem State.setP_pc : (s.setP v).pc = s.pc := rfl
@[simp] theorem State.setP_p : (s.setP v).p = v := rfl
@[simp] theorem State.setP_wait : (s.setP v).wait = s.wait := rfl
@[simp] theorem State.setP_halted : (s.setP v).halted = s.halted := rfl
@[simp] theorem State.setP_nmiPending : (s.setP v).nmiPending = s.nmiPending := rfl
@[simp] theorem State.setP_mem : (s.setP v).mem = s.mem := rfl
@[simp] theorem State.setP_ppu : (s.setP v).ppu = s.ppu := rfl
@[simp] theorem State.setP_host : (s.setP v).host = s.host := rfl
@[simp] theorem State.setP_cfg : (s.setP v).cfg = s.cfg := rfl

end

section
variable (s : State) (v : Nat)

@[simp] theorem State.setWait_a : (s.setWait v).a = s.a := rfl
@[simp] theorem State.setWait_x : (s.setWait v).x = s.x := rfl
@[simp] theorem State.setWait_y : (s.setWait v).y = s.y := rfl
@[simp] theorem State.setWait_sp : (s.setWait v).sp = s.sp := rfl
@[simp] theorem State.setWait_pc : (s.setWait v).pc = s.pc := rfl
@[simp] theorem State.setWait_p : (s.setWait v).p = s.p := rfl
@[simp] theorem State.setWait_wait : (s.setWait v).wait = v := rfl
@[simp] theorem State.setWait_halted : (s.setWait v).halted = s.halted := rfl
@[simp] theorem State.setWait_nmiPending : (s.setWait v).nmiPending = s.nmiPending := rfl
@[simp] theorem State.setWait_mem : (s.setWait v).mem = s.mem := rfl
@[simp] theorem State.setWait_ppu : (s.setWait v).ppu = s.ppu := rfl
@[simp] theorem State.setWait_host : (s.setWait v).host = s.host := rfl
@[simp] theorem State.setWait_cfg : (s.setWait v).cfg = s.cfg := rfl

end

section
variable (s : State) (v : Memory)

@[simp] theorem State.setMem_a : (s.setMem v).a = s.a := rfl
@[simp] theorem State.setMem_x : (s.setMem v).x = s.x := rfl
@[simp] theorem State.setMem_y : (s.setMem v).y = s.y := rfl
@[simp] theorem State.setMem_sp : (s.setMem v).sp = s.sp := rfl
@[simp] theorem State.setMem_pc : (s.setMem v).pc = s.pc := rfl
@[simp] theorem State.setMem_p : (s.setMem v).p = s.p := rfl
@[simp] theorem State.setMem_wait : (s.setMem v).wait = s.wait := rfl
@[simp] theorem State.setMem_halted : (s.setMem v).halted = s.halted := rfl
@[simp] theorem State.setMem_nmiPending : (s.setMem v).nmiPending = s.nmiPending := rfl
@[simp] theorem State.setMem_mem : (s.setMem v).mem = v := rfl
@[simp] theorem State.setMem_ppu : (s.setMem v).ppu = s.ppu := rfl
@[simp] theorem State.setMem_host : (s.setMem v).host = s.host := rfl
@[simp] theorem State.setMem_cfg : (s.setMem v).cfg = s.cfg := rfl

end

section
variable (s : State) (v : TimingUnit)

@[simp] theorem State.setPpu_a : (s.setPpu v).a = s.a := rfl
@[simp] theorem State.setPpu_x : (s.setPpu v).x = s.x := rfl
@[simp] theorem State.setPpu_y : (s.setPpu v).y = s.y := rfl
@[simp] theorem State.setPpu_sp : (s.setPpu v).sp = s.sp := rfl
@[simp] theorem State.setPpu_pc : (s.setPpu v).pc = s.pc := rfl
@[simp] theorem State.setPpu_p : (s.setPpu v).p = s.p := rfl
@[simp] theorem State.setPpu_wait : (s.setPpu v).wait = s.wait := rfl
@[simp] theorem State.setPpu_halted : (s.setPpu v).halted = s.halted := rfl
@[simp] theorem State.setPpu_nmiPending : (s.setPpu v).nmiPending = s.nmiPending := rfl
@[simp] theorem State.setPpu_mem : (s.setPpu v).mem = s.mem := rfl
@[simp] theorem State.setPpu_ppu : (s.setPpu v).ppu = v := rfl
@[simp] theorem State.setPpu_host : (s.setPpu v).host = s.host := rfl
@[simp] theorem State.setPpu_cfg : (s.setPpu v).cfg = s.cfg := rfl

end

section
variable (s : State) (v : Bool)

@[simp] theorem State.setNmi_a : (s.setNmi v).a = s.a := rfl
@[simp] theorem State.setNmi_x : (s.setNmi v).x = s.x := rfl
@[simp] theorem State.setNmi_y : (s.setNmi v).y = s.y := rfl
@[simp] theorem State.setNmi_sp : (s.setNmi v).sp = s.sp := rfl
@[simp] theorem State.setNmi_pc : (s.setNmi v).pc = s.pc := rfl
@[simp] theorem State.setNmi_p : (s.setNmi v).p = s.p := rfl
@[simp] theorem State.setNmi_wait : (s.setNmi v).wait = s.wait := rfl
@[simp] theorem State.setNmi_halted : (s.setNmi v).halted = s.halted := rfl
@[simp] theorem State.setNmi_nmiPending : (s.setNmi v).nmiPending = v := rfl
@[simp] theorem State.setNmi_mem : (s.setNmi v).mem = s.mem := rfl
@[simp] theorem State.setNmi_ppu : (s.setNmi v).ppu = s.ppu := rfl
@[simp] theorem State.setNmi_host : (s.setNmi v).host = s.host := rfl
@[simp] theorem State.setNmi_cfg : (s.setNmi v).cfg = s.cfg := rfl

end

section
variable (s : State) (v : Option UnknownOpcode)

@[simp] theorem State.setHalted_a : (s.setHalted v).a = s.a := rfl
@[simp] theorem State.setHalted_x : (s.setHalted v).x = s.x := rfl
@[simp] theorem State.setHalted_y : (s.setHalted v).y = s.y := rfl
@[simp] theorem State.setHalted_sp : (s.setHalted v).sp = s.sp := rfl
@[simp] theorem State.setHalted_pc : (s.setHalted v).pc = s.pc := rfl
@[simp] theorem State.setHalted_p : (s.setHalted v).p = s.p := rfl
@[simp] theorem State.setHalted_wait : (s.setHalted v).wait = s.wait := rfl
@[simp] theorem State.setHalted_halted : (s.setHalted v).halted = v := rfl
@[simp] theorem State.setHalted_nmiPending : (s.setHalted v).nmiPending = s.nmiPending := rfl
@[simp] theorem State.setHalted_mem : (s.setHalted v).mem = s.mem := rfl
@[simp] theorem State.setHalted_ppu : (s.setHalted v).ppu = s.ppu := rfl
@[simp] theorem State.setHalted_host : (s.setHalted v).host = s.host := rfl
@[simp] theorem State.setHalted_cfg : (s.setHalted v).cfg = s.cfg := rfl

end

end Sys2Proof.Machine
end

