-- ==== Sys2Proof/Laws/TimingUnit.lean ====
section
/-! SUPPORT. What each Timing Unit operation can do, said once: the fields it leaves, and where it acts. -/

namespace Sys2Proof.Machine

theorem advanceCounters_frame (u : TimingUnit) :
    advanceCounters u = { u with
      cycle := (advanceCounters u).cycle
      scanline := (advanceCounters u).scanline
      odd := (advanceCounters u).odd } := by
  unfold advanceCounters
  split_ifs <;> rfl

/-- The three cases of the counters (50_timing_unit.md R233). -/
theorem advanceCounters_cases (u : TimingUnit) :
    (u.cycle.val + 1 < 341 ∧ (advanceCounters u).cycle.val = u.cycle.val + 1 ∧
      (advanceCounters u).scanline = u.scanline ∧ (advanceCounters u).odd = u.odd) ∨
    (u.cycle.val = 340 ∧ u.scanline.val + 1 < 262 ∧ (advanceCounters u).cycle.val = 0 ∧
      (advanceCounters u).scanline.val = u.scanline.val + 1 ∧ (advanceCounters u).odd = u.odd) ∨
    (u.cycle.val = 340 ∧ u.scanline.val = 261 ∧ (advanceCounters u).cycle.val = 0 ∧
      (advanceCounters u).scanline.val = 0 ∧ (advanceCounters u).odd = !u.odd) := by
  have hc := u.cycle.isLt
  have hl := u.scanline.isLt
  by_cases h1 : u.cycle.val + 1 < 341
  · exact .inl ⟨h1, by simp [advanceCounters, h1]⟩
  · by_cases h2 : u.scanline.val + 1 < 262
    · exact .inr (.inl ⟨by omega, h2, by simp [advanceCounters, h1, h2]⟩)
    · exact .inr (.inr ⟨by omega, by omega, by simp [advanceCounters, h1, h2]⟩)

/-- The three cases of the vblank events (R231, R236, R238). -/
theorem vblankEvent_cases (s : State) :
    (s.ppu.cycle = s.cfg.vblDot ∧ s.ppu.scanline = vblLine ∧ vblankEvent s = vblankSet s) ∨
    (s.ppu.cycle = s.cfg.vblDot ∧ s.ppu.scanline = preLine ∧ vblankEvent s = vblankClear s) ∨
    (¬(s.ppu.cycle = s.cfg.vblDot ∧ (s.ppu.scanline = vblLine ∨ s.ppu.scanline = preLine)) ∧ vblankEvent s = s) := by
  unfold vblankEvent
  split_ifs with h1 h2 h3
  · exact .inl ⟨h1, h2, rfl⟩
  · exact .inr (.inl ⟨h1, h3, rfl⟩)
  · exact .inr (.inr ⟨by tauto, rfl⟩)
  · exact .inr (.inr ⟨by tauto, rfl⟩)

/-- A vblank event changes only `status` and `nmi_pending`. -/
theorem vblankEvent_frame (s : State) :
    vblankEvent s = { s with
      nmiPending := (vblankEvent s).nmiPending
      ppu := { s.ppu with status := (vblankEvent s).ppu.status } } := by
  rcases vblankEvent_cases s with ⟨-, -, h⟩ | ⟨-, -, h⟩ | ⟨-, h⟩ <;> rw [h] <;> rfl

/-- A tick changes only `nmi_pending`, the counters, the parity and `status` (R232). -/
theorem ppuTick_frame (s : State) :
    ppuTick s = { s with
      nmiPending := (vblankEvent s).nmiPending
      ppu := { s.ppu with
        cycle := (advanceCounters s.ppu).cycle
        scanline := (advanceCounters s.ppu).scanline
        odd := (advanceCounters s.ppu).odd
        status := (vblankEvent s).ppu.status } } := by
  have hv := vblankEvent_frame s
  have ha : advanceCounters (vblankEvent s).ppu =
      { advanceCounters s.ppu with status := (vblankEvent s).ppu.status } := by
    rw [hv]
    simp only [advanceCounters]
    split_ifs <;> rfl
  unfold ppuTick
  simp only [ha]
  rw [hv]
  simp only []
  rw [advanceCounters_frame s.ppu]

theorem ppuTicks_succ (n : Nat) (s : State) : ppuTicks (n + 1) s = ppuTicks n (ppuTick s) := rfl

/-- Packaged induction: what one tick keeps, any number of ticks keeps. -/
theorem ppuTicks_induction {P : State → Prop} (step : ∀ s, P s → P (ppuTick s)) (n : Nat) (s : State) (h : P s) :
    P (ppuTicks n s) := by
  induction n generalizing s with
  | zero => exact h
  | succ k ih => exact ih _ (step s h)

/-- The last tick of a run of ticks can be split off. -/
theorem ppuTicks_succ' (n : Nat) (s : State) : ppuTicks (n + 1) s = ppuTick (ppuTicks n s) := by
  induction n generalizing s with
  | zero => rfl
  | succ k ih => rw [ppuTicks_succ, ih, ppuTicks_succ]

/-- Any number of ticks leaves everything but `nmi_pending`, the counters, the parity and `status`. -/
theorem ppuTicks_frame (n : Nat) (s : State) :
    ppuTicks n s = { s with
      nmiPending := (ppuTicks n s).nmiPending
      ppu := { s.ppu with
        cycle := (ppuTicks n s).ppu.cycle
        scanline := (ppuTicks n s).ppu.scanline
        odd := (ppuTicks n s).ppu.odd
        status := (ppuTicks n s).ppu.status } } := by
  induction n generalizing s with
  | zero => rfl
  | succ k ih =>
    rw [ppuTicks_succ, ih (ppuTick s), ppuTick_frame s]

/-- A status read changes only `status` and `w` (R246). -/
theorem statusRead_frame (u : TimingUnit) :
    (statusRead u).2 = { u with status := u.status &&& 0x7F#8, w := false } := rfl

/-- A data read changes only `buf` and `ptr` (R247). -/
theorem dataRead_frame (u : TimingUnit) :
    (dataRead u).2 = { u with buf := (dataRead u).2.buf, ptr := u.ptr + ptrInc u } := by
  unfold dataRead
  split_ifs <;> rfl

/-- A window write leaves the counters, the parity, `status` and `buf` (R239 to R242). -/
theorem windowWrite_frame (m : Word) (v : Byte) (u : TimingUnit) :
    windowWrite m v u = { u with
      ctrl := (windowWrite m v u).ctrl
      mask := (windowWrite m v u).mask
      w := (windowWrite m v u).w
      ptr := (windowWrite m v u).ptr
      vram := (windowWrite m v u).vram } := by
  unfold windowWrite
  split_ifs
  · rfl
  · rfl
  · unfold addrWrite; split_ifs <;> rfl
  · rfl
  · rfl

/-- Outside the window a write has no Timing Unit effect. -/
theorem windowWrite_outside {m : Word} (v : Byte) (u : TimingUnit)
    (h : m.toNat < 0x2000 ∨ 0x2007 < m.toNat) : windowWrite m v u = u := by
  have hne : ∀ k : Nat, 0x2000 ≤ k → k ≤ 0x2007 → m ≠ BitVec.ofNat 16 k := by
    rintro k h1 h2 rfl
    rw [BitVec.toNat_ofNat] at h
    omega
  unfold windowWrite
  rw [if_neg (hne 0x2000 (by omega) (by omega)), if_neg (hne 0x2001 (by omega) (by omega)),
    if_neg (hne 0x2006 (by omega) (by omega)), if_neg (hne 0x2007 (by omega) (by omega))]

/-- Outside the window a read falls through to the array. -/
theorem windowRead_outside {m : Word} (u : TimingUnit)
    (h : m.toNat < 0x2000 ∨ 0x2007 < m.toNat) : windowRead m u = none := by
  have hne : ∀ k : Nat, 0x2000 ≤ k → k ≤ 0x2007 → m ≠ BitVec.ofNat 16 k := by
    rintro k h1 h2 rfl
    rw [BitVec.toNat_ofNat] at h
    omega
  unfold windowRead
  rw [if_neg (hne 0x2002 (by omega) (by omega)), if_neg (hne 0x2007 (by omega) (by omega))]

end Sys2Proof.Machine
end

