-- ==== Sys2Proof/Laws/Ops.lean ====
section
/-! SUPPORT. One lemma per shared operation: everything it can do. A data read changes only the Timing Unit, a data
write only the array and the Timing Unit, a push and a pop only `SP` and the array. -/

namespace Sys2Proof.Machine

/-! ## Access paths -/

theorem rawRead_eq (a : Word) (s : State) : rawRead a s = s.mem.read (mirror a).toNat := rfl

theorem rawRead_of_mem_eq {s t : State} (h : t.mem = s.mem) (a : Word) : rawRead a t = rawRead a s := by
  rw [rawRead_eq, rawRead_eq, h]

theorem rawWrite_eq (a : Word) (v : Byte) (s : State) :
    rawWrite a v s = { s with mem := s.mem.write (mirror a).toNat v } := rfl

theorem rawRead_rawWrite_same {s : State} (hs : s.mem.wf) {a b : Word} (h : mirror b = mirror a) (v : Byte) :
    rawRead b (rawWrite a v s) = v := by
  rw [rawRead_eq, rawWrite_eq, h]
  exact Memory.read_write_same hs _ _

theorem rawRead_rawWrite_other (s : State) {a b : Word} (h : mirror b ≠ mirror a) (v : Byte) :
    rawRead b (rawWrite a v s) = rawRead b s := by
  rw [rawRead_eq, rawWrite_eq]
  exact Memory.read_write_other _ _ fun e => h (BitVec.eq_of_toNat_eq e)

/-- A data read changes only the Timing Unit (20_memory.md R46). -/
theorem memRead_frame (a : Word) (s : State) : (memRead a s).2 = { s with ppu := (memRead a s).2.ppu } := by
  unfold memRead
  split <;> rfl

/-- A data read depends only on the array and the Timing Unit. -/
theorem memRead_congr {s t : State} (hm : t.mem = s.mem) (hp : t.ppu = s.ppu) (a : Word) :
    (memRead a t).1 = (memRead a s).1 ∧ (memRead a t).2.ppu = (memRead a s).2.ppu := by
  unfold memRead
  rw [hp, rawRead_of_mem_eq hm]
  split <;> simp [hp]

/-- A data read that is not intercepted. -/
theorem memRead_plain {a : Word} {s : State} (h : windowRead (mirror a) s.ppu = none) :
    memRead a s = (rawRead a s, s) := by
  unfold memRead
  rw [h]

/-- A data write changes only the array and the Timing Unit (20_memory.md R47). -/
theorem memWrite_eq (a : Word) (v : Byte) (s : State) :
    memWrite a v s = { s with mem := s.mem.write (mirror a).toNat v, ppu := windowWrite (mirror a) v s.ppu } := rfl

theorem rawRead_memWrite_same {s : State} (hs : s.mem.wf) (a : Word) (v : Byte) : rawRead a (memWrite a v s) = v :=
  rawRead_rawWrite_same (s := s.setPpu _) hs rfl v

theorem rawRead_memWrite_other (s : State) {a b : Word} (h : mirror b ≠ mirror a) (v : Byte) :
    rawRead b (memWrite a v s) = rawRead b s :=
  rawRead_rawWrite_other (s.setPpu _) h v

/-! ## Stack -/

theorem stackAddr_toNat (sp : Byte) : (stackAddr sp).toNat = 0x100 + sp.toNat := by
  rw [stackAddr, word_toNat]
  rfl

theorem stackAddr_injective {p q : Byte} : stackAddr p = stackAddr q ↔ p = q := by
  refine ⟨fun h => BitVec.eq_of_toNat_eq ?_, fun h => h ▸ rfl⟩
  have := congrArg BitVec.toNat h
  rw [stackAddr_toNat, stackAddr_toNat] at this
  omega

/-- `map` leaves a stack address unchanged (40_addressing_and_stack.md R116). -/
theorem mirror_stackAddr (sp : Byte) : mirror (stackAddr sp) = stackAddr sp := by
  have h := sp.isLt
  exact mirror_of_lt (by rw [stackAddr_toNat]; omega)

theorem stack_outside_window (sp : Byte) :
    (mirror (stackAddr sp)).toNat < 0x2000 ∨ 0x2007 < (mirror (stackAddr sp)).toNat := by
  have h := sp.isLt
  rw [mirror_stackAddr, stackAddr_toNat]
  omega

/-- `Push(v)` (R112, R116): one cell of page one and `SP`. -/
theorem push_eq (v : Byte) (s : State) :
    push v s = { s with sp := s.sp - 0x01#8, mem := s.mem.write (stackAddr s.sp).toNat v } := by
  unfold push
  rw [memWrite_eq, windowWrite_outside _ _ (stack_outside_window s.sp), mirror_stackAddr]
  rfl

/-- `Pop()` (R113, R116): `SP`, and the value of one cell of page one. -/
theorem pop_eq (s : State) :
    pop s = (rawRead (stackAddr (s.sp + 0x01#8)) s, { s with sp := s.sp + 0x01#8 }) := by
  unfold pop
  simp only [State.setSp_sp]
  rw [memRead_plain (windowRead_outside _ (stack_outside_window _))]
  rfl

/-- A 16-bit read of a vector: plain array cells (60_exceptions.md R269). -/
theorem memRead16_vector {a : Word} (h : 0x4000 ≤ a.toNat) (h' : a.toNat < 0xFFFF) (s : State) :
    memRead16 a s = (word (rawRead (a + 1#16) s) (rawRead a s), s) := by
  have ha : (a + 1#16).toNat = a.toNat + 1 := by
    rw [BitVec.toNat_add]
    simp only [BitVec.toNat_ofNat]
    omega
  unfold memRead16
  rw [memRead_plain (windowRead_outside _ (by rw [mirror_of_ge h]; omega))]
  simp only []
  rw [memRead_plain (windowRead_outside _ (by rw [mirror_of_ge (by omega)]; omega))]

/-! ## Exceptions -/

/-- Entry (R267, R268, 45_flags_system.md R208), all of it: three cells of page one, `SP`, I and `PC`. -/
theorem enterException_eq (ret : Word) (b : Bool) {vector : Word} (h : 0x4000 ≤ vector.toNat)
    (h' : vector.toNat < 0xFFFF) (s : State) :
    enterException ret b vector s = { s with
      sp := s.sp - 0x01#8 - 0x01#8 - 0x01#8
      p := { s.p with i := true }
      pc := word (rawRead (vector + 1#16) s) (rawRead vector s)
      mem := ((s.mem.write (stackAddr s.sp).toNat (hiByte ret)).write
        (stackAddr (s.sp - 0x01#8)).toNat (loByte ret)).write
        (stackAddr (s.sp - 0x01#8 - 0x01#8)).toNat (pByte s.p b) } := by
  have hv : ∀ a : Word, 0x4000 ≤ a.toNat → ∀ sp : Byte, (mirror a).toNat ≠ (stackAddr sp).toNat := by
    intro a ha sp
    have := sp.isLt
    rw [mirror_of_ge ha, stackAddr_toNat]
    omega
  have h1 : 0x4000 ≤ (vector + 1#16).toNat := by
    rw [BitVec.toNat_add]
    simp only [BitVec.toNat_ofNat]
    omega
  unfold enterException push16
  simp only [push_eq, State.setP]
  rw [memRead16_vector h h']
  simp only [rawRead_eq, State.setPc]
  simp only [Memory.read_write_other _ _ (hv _ h _), Memory.read_write_other _ _ (hv _ h1 _)]

/-- Return (R273, 45_flags_system.md R209), all of it: the flags, `PC` and `SP`. -/
theorem returnFromException_eq (s : State) :
    returnFromException s = { s with
      p := flagsOfByte (rawRead (stackAddr (s.sp + 0x01#8)) s)
      pc := word (rawRead (stackAddr (s.sp + 0x01#8 + 0x01#8 + 0x01#8)) s)
        (rawRead (stackAddr (s.sp + 0x01#8 + 0x01#8)) s)
      sp := s.sp + 0x01#8 + 0x01#8 + 0x01#8 } := by
  unfold returnFromException pop16
  simp only [pop_eq]
  rfl

end Sys2Proof.Machine
end

