-- ==== Sys2Proof/Laws/Operands.lean ====
section
/-! SUPPORT. One lemma per operand operation and per shape of instruction: the whole next state. -/

namespace Sys2Proof.Machine

/-- The resolver does not look at `PC` (40_addressing_and_stack.md R100). -/
@[simp] theorem resolve_advance (m : Operand) (n : Nat) (s : State) : resolve m (advance n s) = resolve m s := by
  have hz : ∀ p, zeroPagePointer p (advance n s) = zeroPagePointer p s := fun p => by
    unfold zeroPagePointer
    rw [(memRead_congr (s := s) (t := advance n s) rfl rfl _).1, (memRead_congr (s := s) (t := advance n s) rfl rfl _).1]
  cases m <;> simp only [resolve, hz] <;> rfl

/-- Reading an operand changes only the Timing Unit (R110). -/
theorem readOperand_frame (m : Operand) (s : State) :
    (readOperand m s).2 = { s with ppu := (readOperand m s).2.ppu } := by
  cases m <;> first | rfl | exact memRead_frame _ _

/-- The operand does not depend on `PC`. -/
theorem readOperand_advance (m : Operand) (n : Nat) (s : State) :
    (readOperand m (advance n s)).1 = (readOperand m s).1 ∧
      (readOperand m (advance n s)).2.ppu = (readOperand m s).2.ppu := by
  have h : ∀ w, (memRead w (advance n s)).1 = (memRead w s).1 ∧ (memRead w (advance n s)).2.ppu = (memRead w s).2.ppu :=
    fun w => memRead_congr (s := s) (t := advance n s) rfl rfl w
  cases m with
  | acc => exact ⟨rfl, rfl⟩
  | imm _ => exact ⟨rfl, rfl⟩
  | _ => simp only [readOperand, resolve_advance, h, and_self]

/-- An instruction that reads its operand, all of it. -/
theorem readInstr_eq (m : Operand) (cost : Nat) (penalised : Bool) (f : Byte → State → State) (s : State) :
    readInstr m cost penalised f s =
      .next ((f (readOperand m s).1
        { s with
          pc := s.pc + BitVec.ofNat 16 (operandLength m)
          ppu := (readOperand m s).2.ppu }).setWait
        (cost + (if penalised then if (resolve m s).2 then 1 else 0 else 0) - 1)) := by
  have h := readOperand_advance m (operandLength m) s
  unfold readInstr complete crossBonus
  simp only [resolve_advance]
  rw [readOperand_frame m (advance _ s), h.1, h.2]
  rfl

/-- An instruction that stores, all of it. -/
theorem storeInstr_eq (m : Operand) (cost : Nat) (v : State → Byte) (s : State) :
    storeInstr m cost v s =
      .next ((memWrite (resolve m s).1 (v (advance (operandLength m) s)) (advance (operandLength m) s)).setWait
        (cost - 1)) := by
  unfold storeInstr complete
  simp only [resolve_advance]

/-- A read-modify-write instruction on memory, all of it (43_shift_incdec.md R170). -/
theorem modifyInstr_eq {m : Operand} (ha : m ≠ .acc) (hi : ∀ d, m ≠ .imm d) (cost : Nat)
    (f : Byte → Flags → Byte × Flags) (s : State) :
    modifyInstr m cost f s =
      .next ((memWrite (resolve m s).1 (f (memRead (resolve m s).1 s).1 s.p).1
        { s with
          pc := s.pc + BitVec.ofNat 16 (operandLength m)
          p := (f (memRead (resolve m s).1 s).1 s.p).2
          ppu := (memRead (resolve m s).1 s).2.ppu }).setWait (cost - 1)) := by
  have h := readOperand_advance m (operandLength m) s
  have hr : readOperand m s = memRead (resolve m s).1 s := by
    cases m <;> first | rfl | exact absurd rfl ha | exact absurd rfl (hi _)
  unfold modifyInstr complete
  simp only [resolve_advance]
  rw [readOperand_frame m (advance _ s), h.1, h.2, hr]
  cases m <;> rfl

/-- A read-modify-write instruction on `A`, all of it. -/
theorem modifyInstr_acc (cost : Nat) (f : Byte → Flags → Byte × Flags) (s : State) :
    modifyInstr .acc cost f s =
      .next { s with
        pc := s.pc + 1#16
        a := (f s.a s.p).1
        p := (f s.a s.p).2
        wait := cost - 1 } := rfl

/-- A branch, all of it (44_control_transfer.md R180). -/
theorem branchInstr_eq (d : Byte) (cond : Flags → Bool) (s : State) :
    branchInstr d cond s =
      if cond s.p then
        .next { s with
          pc := s.pc + 2#16 + sext8 d
          wait := if page (s.pc + 2#16 + sext8 d) ≠ page (s.pc + 2#16) then 3 else 2 }
      else .next { s with pc := s.pc + 2#16, wait := 1 } := by
  show (if cond s.p then
      Host.Outcome.next (((advance 2 s).setPc (s.pc + 2#16 + sext8 d)).setWait
        ((3 + if page (s.pc + 2#16 + sext8 d) ≠ page (s.pc + 2#16) then 1 else 0) - 1))
    else Host.Outcome.next ((advance 2 s).setWait (2 - 1))) = _
  by_cases hc : cond s.p = true
  · rw [if_pos hc, if_pos hc]
    by_cases hp : page (s.pc + 2#16 + sext8 d) ≠ page (s.pc + 2#16)
    · rw [if_pos hp, if_pos hp]; rfl
    · rw [if_neg hp, if_neg hp]; rfl
  · rw [if_neg hc, if_neg hc]; rfl

end Sys2Proof.Machine
end

