-- ==== Sys2Proof/Laws/PerInstr.lean ====
section
/-! SUPPORT. The family `RowOfOpcode`, one lemma per constructor: the opcode table's row for the first byte of an
instruction's encoding makes the instruction from the operand bytes, and has the instruction's option. -/

namespace Sys2Proof.Laws.RowOfOpcode

/-- The instruction a row's format makes from operand bytes. -/
def fromBytes (f : RowForm) (operands : List Byte) : Option Instr :=
  match f, operands with
  | .f1 i, [] => some i
  | .f2 mk, [d] => some (mk d)
  | .f3 mk, [lo, hi] => some (mk (word hi lo))
  | _, _ => none

/-- The row of the encoding's first byte makes `i` from the bytes after it (30_encoding.md R70, R71, R83). -/
def Statement (i : Instr) : Prop :=
  ∃ op operands form, encode i = op :: operands ∧ opRow op = some { form := form, optional := i.optional } ∧
    fromBytes form operands = some i

theorem f3 {op : Byte} {mk : Word → Instr} (w : Word) (he : encode (mk w) = [op, loByte w, hiByte w])
    (hr : opRow op = some { form := .f3 mk, optional := (mk w).optional }) : Statement (mk w) :=
  ⟨op, _, .f3 mk, he, hr, by rw [fromBytes, word_halves]⟩

theorem ldaImm (d : Byte) : Statement (.ldaImm d) := ⟨_, _, _, rfl, rfl, rfl⟩
theorem ldaZp (d : Byte) : Statement (.ldaZp d) := ⟨_, _, _, rfl, rfl, rfl⟩
theorem ldaZpx (d : Byte) : Statement (.ldaZpx d) := ⟨_, _, _, rfl, rfl, rfl⟩
theorem ldaAbs (w : Word) : Statement (.ldaAbs w) := f3 w rfl rfl
theorem ldaAbsx (w : Word) : Statement (.ldaAbsx w) := f3 w rfl rfl
theorem ldaAbsy (w : Word) : Statement (.ldaAbsy w) := f3 w rfl rfl
theorem ldaIndx (d : Byte) : Statement (.ldaIndx d) := ⟨_, _, _, rfl, rfl, rfl⟩
theorem ldaIndy (d : Byte) : Statement (.ldaIndy d) := ⟨_, _, _, rfl, rfl, rfl⟩
theorem ldxImm (d : Byte) : Statement (.ldxImm d) := ⟨_, _, _, rfl, rfl, rfl⟩
theorem ldxZp (d : Byte) : Statement (.ldxZp d) := ⟨_, _, _, rfl, rfl, rfl⟩
theorem ldxZpy (d : Byte) : Statement (.ldxZpy d) := ⟨_, _, _, rfl, rfl, rfl⟩
theorem ldxAbs (w : Word) : Statement (.ldxAbs w) := f3 w rfl rfl
theorem ldxAbsy (w : Word) : Statement (.ldxAbsy w) := f3 w rfl rfl
theorem ldyImm (d : Byte) : Statement (.ldyImm d) := ⟨_, _, _, rfl, rfl, rfl⟩
theorem ldyZp (d : Byte) : Statement (.ldyZp d) := ⟨_, _, _, rfl, rfl, rfl⟩
theorem ldyZpx (d : Byte) : Statement (.ldyZpx d) := ⟨_, _, _, rfl, rfl, rfl⟩
theorem ldyAbs (w : Word) : Statement (.ldyAbs w) := f3 w rfl rfl
theorem ldyAbsx (w : Word) : Statement (.ldyAbsx w) := f3 w rfl rfl
theorem staZp (d : Byte) : Statement (.staZp d) := ⟨_, _, _, rfl, rfl, rfl⟩
theorem staZpx (d : Byte) : Statement (.staZpx d) := ⟨_, _, _, rfl, rfl, rfl⟩
theorem staAbs (w : Word) : Statement (.staAbs w) := f3 w rfl rfl
theorem staAbsx (w : Word) : Statement (.staAbsx w) := f3 w rfl rfl
theorem staAbsy (w : Word) : Statement (.staAbsy w) := f3 w rfl rfl
theorem staIndx (d : Byte) : Statement (.staIndx d) := ⟨_, _, _, rfl, rfl, rfl⟩
theorem staIndy (d : Byte) : Statement (.staIndy d) := ⟨_, _, _, rfl, rfl, rfl⟩
theorem stxZp (d : Byte) : Statement (.stxZp d) := ⟨_, _, _, rfl, rfl, rfl⟩
theorem stxZpy (d : Byte) : Statement (.stxZpy d) := ⟨_, _, _, rfl, rfl, rfl⟩
theorem stxAbs (w : Word) : Statement (.stxAbs w) := f3 w rfl rfl
theorem styZp (d : Byte) : Statement (.styZp d) := ⟨_, _, _, rfl, rfl, rfl⟩
theorem styZpx (d : Byte) : Statement (.styZpx d) := ⟨_, _, _, rfl, rfl, rfl⟩
theorem styAbs (w : Word) : Statement (.styAbs w) := f3 w rfl rfl
theorem tax : Statement .tax := ⟨_, _, _, rfl, rfl, rfl⟩
theorem tay : Statement .tay := ⟨_, _, _, rfl, rfl, rfl⟩
theorem txa : Statement .txa := ⟨_, _, _, rfl, rfl, rfl⟩
theorem tya : Statement .tya := ⟨_, _, _, rfl, rfl, rfl⟩
theorem tsx : Statement .tsx := ⟨_, _, _, rfl, rfl, rfl⟩
theorem txs : Statement .txs := ⟨_, _, _, rfl, rfl, rfl⟩
theorem pha : Statement .pha := ⟨_, _, _, rfl, rfl, rfl⟩
theorem php : Statement .php := ⟨_, _, _, rfl, rfl, rfl⟩
theorem pla : Statement .pla := ⟨_, _, _, rfl, rfl, rfl⟩
theorem plp : Statement .plp := ⟨_, _, _, rfl, rfl, rfl⟩
theorem adcImm (d : Byte) : Statement (.adcImm d) := ⟨_, _, _, rfl, rfl, rfl⟩
theorem adcZp (d : Byte) : Statement (.adcZp d) := ⟨_, _, _, rfl, rfl, rfl⟩
theorem adcZpx (d : Byte) : Statement (.adcZpx d) := ⟨_, _, _, rfl, rfl, rfl⟩
theorem adcAbs (w : Word) : Statement (.adcAbs w) := f3 w rfl rfl
theorem adcAbsx (w : Word) : Statement (.adcAbsx w) := f3 w rfl rfl
theorem adcAbsy (w : Word) : Statement (.adcAbsy w) := f3 w rfl rfl
theorem adcIndx (d : Byte) : Statement (.adcIndx d) := ⟨_, _, _, rfl, rfl, rfl⟩
theorem adcIndy (d : Byte) : Statement (.adcIndy d) := ⟨_, _, _, rfl, rfl, rfl⟩
theorem sbcImm (d : Byte) : Statement (.sbcImm d) := ⟨_, _, _, rfl, rfl, rfl⟩
theorem sbcZp (d : Byte) : Statement (.sbcZp d) := ⟨_, _, _, rfl, rfl, rfl⟩
theorem sbcZpx (d : Byte) : Statement (.sbcZpx d) := ⟨_, _, _, rfl, rfl, rfl⟩
theorem sbcAbs (w : Word) : Statement (.sbcAbs w) := f3 w rfl rfl
theorem sbcAbsx (w : Word) : Statement (.sbcAbsx w) := f3 w rfl rfl
theorem sbcAbsy (w : Word) : Statement (.sbcAbsy w) := f3 w rfl rfl
theorem sbcIndx (d : Byte) : Statement (.sbcIndx d) := ⟨_, _, _, rfl, rfl, rfl⟩
theorem sbcIndy (d : Byte) : Statement (.sbcIndy d) := ⟨_, _, _, rfl, rfl, rfl⟩
theorem andImm (d : Byte) : Statement (.andImm d) := ⟨_, _, _, rfl, rfl, rfl⟩
theorem andZp (d : Byte) : Statement (.andZp d) := ⟨_, _, _, rfl, rfl, rfl⟩
theorem andZpx (d : Byte) : Statement (.andZpx d) := ⟨_, _, _, rfl, rfl, rfl⟩
theorem andAbs (w : Word) : Statement (.andAbs w) := f3 w rfl rfl
theorem andAbsx (w : Word) : Statement (.andAbsx w) := f3 w rfl rfl
theorem andAbsy (w : Word) : Statement (.andAbsy w) := f3 w rfl rfl
theorem andIndx (d : Byte) : Statement (.andIndx d) := ⟨_, _, _, rfl, rfl, rfl⟩
theorem andIndy (d : Byte) : Statement (.andIndy d) := ⟨_, _, _, rfl, rfl, rfl⟩
theorem oraImm (d : Byte) : Statement (.oraImm d) := ⟨_, _, _, rfl, rfl, rfl⟩
theorem oraZp (d : Byte) : Statement (.oraZp d) := ⟨_, _, _, rfl, rfl, rfl⟩
theorem oraZpx (d : Byte) : Statement (.oraZpx d) := ⟨_, _, _, rfl, rfl, rfl⟩
theorem oraAbs (w : Word) : Statement (.oraAbs w) := f3 w rfl rfl
theorem oraAbsx (w : Word) : Statement (.oraAbsx w) := f3 w rfl rfl
theorem oraAbsy (w : Word) : Statement (.oraAbsy w) := f3 w rfl rfl
theorem oraIndx (d : Byte) : Statement (.oraIndx d) := ⟨_, _, _, rfl, rfl, rfl⟩
theorem oraIndy (d : Byte) : Statement (.oraIndy d) := ⟨_, _, _, rfl, rfl, rfl⟩
theorem eorImm (d : Byte) : Statement (.eorImm d) := ⟨_, _, _, rfl, rfl, rfl⟩
theorem eorZp (d : Byte) : Statement (.eorZp d) := ⟨_, _, _, rfl, rfl, rfl⟩
theorem eorZpx (d : Byte) : Statement (.eorZpx d) := ⟨_, _, _, rfl, rfl, rfl⟩
theorem eorAbs (w : Word) : Statement (.eorAbs w) := f3 w rfl rfl
theorem eorAbsx (w : Word) : Statement (.eorAbsx w) := f3 w rfl rfl
theorem eorAbsy (w : Word) : Statement (.eorAbsy w) := f3 w rfl rfl
theorem eorIndx (d : Byte) : Statement (.eorIndx d) := ⟨_, _, _, rfl, rfl, rfl⟩
theorem eorIndy (d : Byte) : Statement (.eorIndy d) := ⟨_, _, _, rfl, rfl, rfl⟩
theorem cmpImm (d : Byte) : Statement (.cmpImm d) := ⟨_, _, _, rfl, rfl, rfl⟩
theorem cmpZp (d : Byte) : Statement (.cmpZp d) := ⟨_, _, _, rfl, rfl, rfl⟩
theorem cmpZpx (d : Byte) : Statement (.cmpZpx d) := ⟨_, _, _, rfl, rfl, rfl⟩
theorem cmpAbs (w : Word) : Statement (.cmpAbs w) := f3 w rfl rfl
theorem cmpAbsx (w : Word) : Statement (.cmpAbsx w) := f3 w rfl rfl
theorem cmpAbsy (w : Word) : Statement (.cmpAbsy w) := f3 w rfl rfl
theorem cmpIndx (d : Byte) : Statement (.cmpIndx d) := ⟨_, _, _, rfl, rfl, rfl⟩
theorem cmpIndy (d : Byte) : Statement (.cmpIndy d) := ⟨_, _, _, rfl, rfl, rfl⟩
theorem cpxImm (d : Byte) : Statement (.cpxImm d) := ⟨_, _, _, rfl, rfl, rfl⟩
theorem cpxZp (d : Byte) : Statement (.cpxZp d) := ⟨_, _, _, rfl, rfl, rfl⟩
theorem cpxAbs (w : Word) : Statement (.cpxAbs w) := f3 w rfl rfl
theorem cpyImm (d : Byte) : Statement (.cpyImm d) := ⟨_, _, _, rfl, rfl, rfl⟩
theorem cpyZp (d : Byte) : Statement (.cpyZp d) := ⟨_, _, _, rfl, rfl, rfl⟩
theorem cpyAbs (w : Word) : Statement (.cpyAbs w) := f3 w rfl rfl
theorem bitZp (d : Byte) : Statement (.bitZp d) := ⟨_, _, _, rfl, rfl, rfl⟩
theorem bitAbs (w : Word) : Statement (.bitAbs w) := f3 w rfl rfl
theorem aslAcc : Statement .aslAcc := ⟨_, _, _, rfl, rfl, rfl⟩
theorem aslZp (d : Byte) : Statement (.aslZp d) := ⟨_, _, _, rfl, rfl, rfl⟩
theorem aslZpx (d : Byte) : Statement (.aslZpx d) := ⟨_, _, _, rfl, rfl, rfl⟩
theorem aslAbs (w : Word) : Statement (.aslAbs w) := f3 w rfl rfl
theorem aslAbsx (w : Word) : Statement (.aslAbsx w) := f3 w rfl rfl
theorem lsrAcc : Statement .lsrAcc := ⟨_, _, _, rfl, rfl, rfl⟩
theorem lsrZp (d : Byte) : Statement (.lsrZp d) := ⟨_, _, _, rfl, rfl, rfl⟩
theorem lsrZpx (d : Byte) : Statement (.lsrZpx d) := ⟨_, _, _, rfl, rfl, rfl⟩
theorem lsrAbs (w : Word) : Statement (.lsrAbs w) := f3 w rfl rfl
theorem lsrAbsx (w : Word) : Statement (.lsrAbsx w) := f3 w rfl rfl
theorem rolAcc : Statement .rolAcc := ⟨_, _, _, rfl, rfl, rfl⟩
theorem rolZp (d : Byte) : Statement (.rolZp d) := ⟨_, _, _, rfl, rfl, rfl⟩
theorem rolZpx (d : Byte) : Statement (.rolZpx d) := ⟨_, _, _, rfl, rfl, rfl⟩
theorem rolAbs (w : Word) : Statement (.rolAbs w) := f3 w rfl rfl
theorem rolAbsx (w : Word) : Statement (.rolAbsx w) := f3 w rfl rfl
theorem rorAcc : Statement .rorAcc := ⟨_, _, _, rfl, rfl, rfl⟩
theorem rorZp (d : Byte) : Statement (.rorZp d) := ⟨_, _, _, rfl, rfl, rfl⟩
theorem rorZpx (d : Byte) : Statement (.rorZpx d) := ⟨_, _, _, rfl, rfl, rfl⟩
theorem rorAbs (w : Word) : Statement (.rorAbs w) := f3 w rfl rfl
theorem rorAbsx (w : Word) : Statement (.rorAbsx w) := f3 w rfl rfl
theorem incZp (d : Byte) : Statement (.incZp d) := ⟨_, _, _, rfl, rfl, rfl⟩
theorem incZpx (d : Byte) : Statement (.incZpx d) := ⟨_, _, _, rfl, rfl, rfl⟩
theorem incAbs (w : Word) : Statement (.incAbs w) := f3 w rfl rfl
theorem incAbsx (w : Word) : Statement (.incAbsx w) := f3 w rfl rfl
theorem decZp (d : Byte) : Statement (.decZp d) := ⟨_, _, _, rfl, rfl, rfl⟩
theorem decZpx (d : Byte) : Statement (.decZpx d) := ⟨_, _, _, rfl, rfl, rfl⟩
theorem decAbs (w : Word) : Statement (.decAbs w) := f3 w rfl rfl
theorem decAbsx (w : Word) : Statement (.decAbsx w) := f3 w rfl rfl
theorem inx : Statement .inx := ⟨_, _, _, rfl, rfl, rfl⟩
theorem iny : Statement .iny := ⟨_, _, _, rfl, rfl, rfl⟩
theorem dex : Statement .dex := ⟨_, _, _, rfl, rfl, rfl⟩
theorem dey : Statement .dey := ⟨_, _, _, rfl, rfl, rfl⟩
theorem bcc (d : Byte) : Statement (.bcc d) := ⟨_, _, _, rfl, rfl, rfl⟩
theorem bcs (d : Byte) : Statement (.bcs d) := ⟨_, _, _, rfl, rfl, rfl⟩
theorem beq (d : Byte) : Statement (.beq d) := ⟨_, _, _, rfl, rfl, rfl⟩
theorem bne (d : Byte) : Statement (.bne d) := ⟨_, _, _, rfl, rfl, rfl⟩
theorem bpl (d : Byte) : Statement (.bpl d) := ⟨_, _, _, rfl, rfl, rfl⟩
theorem bmi (d : Byte) : Statement (.bmi d) := ⟨_, _, _, rfl, rfl, rfl⟩
theorem bvc (d : Byte) : Statement (.bvc d) := ⟨_, _, _, rfl, rfl, rfl⟩
theorem bvs (d : Byte) : Statement (.bvs d) := ⟨_, _, _, rfl, rfl, rfl⟩
theorem jmpAbs (w : Word) : Statement (.jmpAbs w) := f3 w rfl rfl
theorem jmpInd (w : Word) : Statement (.jmpInd w) := f3 w rfl rfl
theorem jsr (w : Word) : Statement (.jsr w) := f3 w rfl rfl
theorem rts : Statement .rts := ⟨_, _, _, rfl, rfl, rfl⟩
theorem clc : Statement .clc := ⟨_, _, _, rfl, rfl, rfl⟩
theorem sec : Statement .sec := ⟨_, _, _, rfl, rfl, rfl⟩
theorem cli : Statement .cli := ⟨_, _, _, rfl, rfl, rfl⟩
theorem sei : Statement .sei := ⟨_, _, _, rfl, rfl, rfl⟩
theorem clv : Statement .clv := ⟨_, _, _, rfl, rfl, rfl⟩
theorem cld : Statement .cld := ⟨_, _, _, rfl, rfl, rfl⟩
theorem sed : Statement .sed := ⟨_, _, _, rfl, rfl, rfl⟩
theorem nop : Statement .nop := ⟨_, _, _, rfl, rfl, rfl⟩
theorem brk : Statement .brk := ⟨_, _, _, rfl, rfl, rfl⟩
theorem rti : Statement .rti := ⟨_, _, _, rfl, rfl, rfl⟩
theorem aac0B (d : Byte) : Statement (.aac0B d) := ⟨_, _, _, rfl, rfl, rfl⟩
theorem aac2B (d : Byte) : Statement (.aac2B d) := ⟨_, _, _, rfl, rfl, rfl⟩
theorem aaxZp (d : Byte) : Statement (.aaxZp d) := ⟨_, _, _, rfl, rfl, rfl⟩
theorem aaxZpy (d : Byte) : Statement (.aaxZpy d) := ⟨_, _, _, rfl, rfl, rfl⟩
theorem aaxAbs (w : Word) : Statement (.aaxAbs w) := f3 w rfl rfl
theorem aaxIndx (d : Byte) : Statement (.aaxIndx d) := ⟨_, _, _, rfl, rfl, rfl⟩
theorem arr (d : Byte) : Statement (.arr d) := ⟨_, _, _, rfl, rfl, rfl⟩

end Sys2Proof.Laws.RowOfOpcode
end

