-- ==== Sys2Proof/Laws/Step.lean ====
section
/-! SUPPORT. What a tick, a step and boot can do, case by case: the inversion lemmas that proofs about a step start from. -/

namespace Sys2Proof.Machine

/-- The cases of a Scheduler tick (38_fetch_execute.md R90). -/
theorem cpuTick_cases (irq : Bool) (s : State) :
    (s.halted.isSome ∧ cpuTick irq s = .next s) ∨
    (s.halted = none ∧ 0 < s.wait ∧ cpuTick irq s = .next (s.setWait (s.wait - 1))) ∨
    (s.halted = none ∧ s.wait = 0 ∧ s.nmiPending = true ∧ cpuTick irq s = .next (nmiEntry s)) ∨
    (s.halted = none ∧ s.wait = 0 ∧ s.nmiPending = false ∧ irq = true ∧ s.p.i = false ∧
      cpuTick irq s = .next (irqEntry s)) ∨
    (s.halted = none ∧ s.wait = 0 ∧ s.nmiPending = false ∧ (irq && !s.p.i) = false ∧
      cpuTick irq s = executeOne s) := by
  unfold cpuTick
  rcases hh : s.halted with _ | h
  · rcases hw : s.wait with _ | w
    · cases hn : s.nmiPending
      · cases irq <;> cases hi : s.p.i <;> simp
      · simp
    · simp
  · simp

/-- The cases of a system tick (70_reset_and_hazards.md R298). -/
theorem systemTick_cases (irq : Bool) (s : State) :
    (s.halted.isSome ∧ systemTick irq s = .next s) ∨
    (s.halted = none ∧ ∃ t, cpuTick irq s = .next t ∧ systemTick irq s = .next (ppuPhase t)) ∨
    (s.halted = none ∧ ∃ r, cpuTick irq s = .refused r ∧ systemTick irq s = .refused r) := by
  unfold systemTick
  rcases hh : s.halted with _ | h
  · cases hc : cpuTick irq s with
    | next t => simp
    | fault r => exact nomatch r
    | refused r => simp
  · simp

/-- The cases of an instruction's execution (R91). -/
theorem executeOne_cases (s : State) :
    (∃ i rest, decode s.cfg.unofficial (fetchBytes s) = .ok (i, rest) ∧ executeOne s = exec i s) ∨
    (∃ e, decode s.cfg.unofficial (fetchBytes s) = .error e ∧
      executeOne s = .next (raiseUnknownOpcode (fetch s.pc s) s)) := by
  unfold executeOne
  rcases decode s.cfg.unofficial (fetchBytes s) with e | ⟨i, rest⟩ <;> simp

/-- A step is a system tick or one of the two resets. -/
theorem step_cases (s : State) :
    (∃ irq, s.nextIrq = some irq ∧ step s = systemTick irq s.afterCall) ∨
    (∃ rest, s.nextIrq = none ∧ s.host = .cpuReset :: rest ∧ step s = .next (cpuReset s.afterCall)) ∨
    (∃ rest, s.nextIrq = none ∧ s.host = .ppuReset :: rest ∧ step s = .next (ppuReset s.afterCall)) := by
  unfold step nextCall State.nextIrq State.afterCall
  rcases hh : s.host with _ | ⟨c, rest⟩
  · refine .inl ⟨false, rfl, ?_⟩
    rw [show ({ s with host := List.tail [] } : State) = s by rw [List.tail_nil, ← hh]]
  · cases c with
    | tick irq => exact .inl ⟨irq, rfl, rfl⟩
    | cpuReset => exact .inr (.inl ⟨_, rfl, rfl, rfl⟩)
    | ppuReset => exact .inr (.inr ⟨_, rfl, rfl, rfl⟩)

/-- The bytes a block write leaves: only cells of the array change (20_memory.md R44). -/
theorem writeBlock_frame (addr : Word) (bytes : List Byte) (s : State) :
    writeBlock addr bytes s = { s with mem := (writeBlock addr bytes s).mem } := by
  induction bytes generalizing addr s with
  | nil => rfl
  | cons v rest ih => rw [writeBlock, ih, rawWrite_eq]

/-- What one raw write keeps of the array, a block write keeps. -/
theorem writeBlock_induction {P : Memory → Prop}
    (write : ∀ m (a : Word) v, P m → P (Memory.write m (mirror a).toNat v))
    (addr : Word) (bytes : List Byte) (s : State) (h : P s.mem) : P (writeBlock addr bytes s).mem := by
  induction bytes generalizing addr s with
  | nil => exact h
  | cons v rest ih => exact ih _ _ (write _ _ _ h)

theorem zeroCells_frame (addrs : List Word) (s : State) :
    zeroCells addrs s = { s with mem := (zeroCells addrs s).mem } := by
  induction addrs generalizing s with
  | nil => rfl
  | cons a rest ih => rw [zeroCells, ih, rawWrite_eq]

theorem zeroCells_induction {P : Memory → Prop}
    (write : ∀ m (a : Word) v, P m → P (Memory.write m (mirror a).toNat v))
    (addrs : List Word) (s : State) (h : P s.mem) : P (zeroCells addrs s).mem := by
  induction addrs generalizing s with
  | nil => exact h
  | cons a rest ih => exact ih _ (write _ _ _ h)

theorem loadVram_frame (i : Nat) (bytes : List Byte) (s : State) :
    loadVram i bytes s = { s with ppu := { s.ppu with vram := (loadVram i bytes s).ppu.vram } } := by
  induction bytes generalizing i s with
  | nil => rfl
  | cons v rest ih => rw [loadVram, ih]; rfl

/-- Mapper init changes the two arrays and nothing else (70_reset_and_hazards.md R296). -/
theorem mapperInit_frame (prg chr : List Byte) (s : State) :
    mapperInit prg chr s = { s with
      mem := (mapperInit prg chr s).mem
      ppu := { s.ppu with vram := (mapperInit prg chr s).ppu.vram } } := by
  unfold mapperInit
  split_ifs
  · rw [loadVram_frame, writeBlock_frame 0xC000#16, writeBlock_frame]
  · rw [loadVram_frame, writeBlock_frame]

/-- CPU reset changes the registers of the CPU, `wait`, `halted`, `nmi_pending` and the array, and leaves the Timing
Unit, the parameters and the calls (R290, R294). -/
theorem cpuReset_frame (s : State) :
    cpuReset s = { s with
      a := 0x00#8
      x := 0x00#8
      y := 0x00#8
      sp := 0xFD#8
      p := s.cfg.pReset
      pc := word (fetch (resetVector + 1#16) (zeroCells s.cfg.apuZeroSet s))
        (fetch resetVector (zeroCells s.cfg.apuZeroSet s))
      wait := s.cfg.resetCost
      halted := none
      nmiPending := false
      mem := (zeroCells s.cfg.apuZeroSet s).mem } := by
  rw [cpuReset, zeroCells_frame]

/-- The cases of boot (R296). -/
theorem boot_cases (prg chr : List Byte) (mem0 vram0 : Memory) (cfg : Config) (calls : List HostCall) :
    (imageFits prg chr ∧ boot prg chr mem0 vram0 cfg calls =
      .next (ppuReset (cpuReset (mapperInit prg chr (unbooted mem0 vram0 cfg calls))))) ∨
    (¬imageFits prg chr ∧ boot prg chr mem0 vram0 cfg calls = .refused .malformedImage) := by
  unfold boot
  split_ifs with h
  · exact .inl ⟨h, rfl⟩
  · exact .inr ⟨h, rfl⟩

end Sys2Proof.Machine
end

