-- ==== Sys2Proof/Tests/Slice0.lean ====
section
/-! SUPPORT. The model's own tests. Expected results are those of spec/95_test_vectors.md (the vector's id stands in the
comment) or of the example of the rule named; decode words are written from the encoding column of opcode_table.json. -/

namespace Sys2Proof.Tests

open Sys2Proof.Machine

/-! ## Well-formed instructions: the one check, `UNOFFICIAL` (30_encoding.md R83) -/

theorem test_optional_opcode_is_refused_without_the_option :
    Instr.wellFormed false (.aac0B 0x80#8) = false ∧ Instr.wellFormed false (.arr 0x80#8) = false ∧
      Instr.wellFormed false (.aaxZp 0x10#8) = false := by decide

theorem test_official_opcode_is_well_formed : Instr.wellFormed false (.ldaImm 0x80#8) = true := by decide

/-! ## Decoding: every row of the opcode table, as a word of the table -/

theorem test_decode_lda :
    decodeTableWord 16 0x5AA9 = some (.ldaImm 0x5A#8) ∧
    decodeTableWord 16 0x5AA5 = some (.ldaZp 0x5A#8) ∧
    decodeTableWord 16 0x5AB5 = some (.ldaZpx 0x5A#8) ∧
    decodeTableWord 24 0x1234AD = some (.ldaAbs 0x1234#16) ∧
    decodeTableWord 24 0x1234BD = some (.ldaAbsx 0x1234#16) ∧
    decodeTableWord 24 0x1234B9 = some (.ldaAbsy 0x1234#16) ∧
    decodeTableWord 16 0x5AA1 = some (.ldaIndx 0x5A#8) ∧
    decodeTableWord 16 0x5AB1 = some (.ldaIndy 0x5A#8) := by decide

theorem test_decode_ldx :
    decodeTableWord 16 0x5AA2 = some (.ldxImm 0x5A#8) ∧
    decodeTableWord 16 0x5AA6 = some (.ldxZp 0x5A#8) ∧
    decodeTableWord 16 0x5AB6 = some (.ldxZpy 0x5A#8) ∧
    decodeTableWord 24 0x1234AE = some (.ldxAbs 0x1234#16) ∧
    decodeTableWord 24 0x1234BE = some (.ldxAbsy 0x1234#16) := by decide

theorem test_decode_ldy :
    decodeTableWord 16 0x5AA0 = some (.ldyImm 0x5A#8) ∧
    decodeTableWord 16 0x5AA4 = some (.ldyZp 0x5A#8) ∧
    decodeTableWord 16 0x5AB4 = some (.ldyZpx 0x5A#8) ∧
    decodeTableWord 24 0x1234AC = some (.ldyAbs 0x1234#16) ∧
    decodeTableWord 24 0x1234BC = some (.ldyAbsx 0x1234#16) := by decide

theorem test_decode_sta :
    decodeTableWord 16 0x5A85 = some (.staZp 0x5A#8) ∧
    decodeTableWord 16 0x5A95 = some (.staZpx 0x5A#8) ∧
    decodeTableWord 24 0x12348D = some (.staAbs 0x1234#16) ∧
    decodeTableWord 24 0x12349D = some (.staAbsx 0x1234#16) ∧
    decodeTableWord 24 0x123499 = some (.staAbsy 0x1234#16) ∧
    decodeTableWord 16 0x5A81 = some (.staIndx 0x5A#8) ∧
    decodeTableWord 16 0x5A91 = some (.staIndy 0x5A#8) := by decide

theorem test_decode_stx :
    decodeTableWord 16 0x5A86 = some (.stxZp 0x5A#8) ∧
    decodeTableWord 16 0x5A96 = some (.stxZpy 0x5A#8) ∧
    decodeTableWord 24 0x12348E = some (.stxAbs 0x1234#16) := by decide

theorem test_decode_sty :
    decodeTableWord 16 0x5A84 = some (.styZp 0x5A#8) ∧
    decodeTableWord 16 0x5A94 = some (.styZpx 0x5A#8) ∧
    decodeTableWord 24 0x12348C = some (.styAbs 0x1234#16) := by decide

theorem test_decode_tax :
    decodeTableWord 8 0xAA = some .tax := by decide

theorem test_decode_tay :
    decodeTableWord 8 0xA8 = some .tay := by decide

theorem test_decode_txa :
    decodeTableWord 8 0x8A = some .txa := by decide

theorem test_decode_tya :
    decodeTableWord 8 0x98 = some .tya := by decide

theorem test_decode_tsx :
    decodeTableWord 8 0xBA = some .tsx := by decide

theorem test_decode_txs :
    decodeTableWord 8 0x9A = some .txs := by decide

theorem test_decode_pha :
    decodeTableWord 8 0x48 = some .pha := by decide

theorem test_decode_php :
    decodeTableWord 8 0x08 = some .php := by decide

theorem test_decode_pla :
    decodeTableWord 8 0x68 = some .pla := by decide

theorem test_decode_plp :
    decodeTableWord 8 0x28 = some .plp := by decide

theorem test_decode_adc :
    decodeTableWord 16 0x5A69 = some (.adcImm 0x5A#8) ∧
    decodeTableWord 16 0x5A65 = some (.adcZp 0x5A#8) ∧
    decodeTableWord 16 0x5A75 = some (.adcZpx 0x5A#8) ∧
    decodeTableWord 24 0x12346D = some (.adcAbs 0x1234#16) ∧
    decodeTableWord 24 0x12347D = some (.adcAbsx 0x1234#16) ∧
    decodeTableWord 24 0x123479 = some (.adcAbsy 0x1234#16) ∧
    decodeTableWord 16 0x5A61 = some (.adcIndx 0x5A#8) ∧
    decodeTableWord 16 0x5A71 = some (.adcIndy 0x5A#8) := by decide

theorem test_decode_sbc :
    decodeTableWord 16 0x5AE9 = some (.sbcImm 0x5A#8) ∧
    decodeTableWord 16 0x5AE5 = some (.sbcZp 0x5A#8) ∧
    decodeTableWord 16 0x5AF5 = some (.sbcZpx 0x5A#8) ∧
    decodeTableWord 24 0x1234ED = some (.sbcAbs 0x1234#16) ∧
    decodeTableWord 24 0x1234FD = some (.sbcAbsx 0x1234#16) ∧
    decodeTableWord 24 0x1234F9 = some (.sbcAbsy 0x1234#16) ∧
    decodeTableWord 16 0x5AE1 = some (.sbcIndx 0x5A#8) ∧
    decodeTableWord 16 0x5AF1 = some (.sbcIndy 0x5A#8) := by decide

theorem test_decode_and :
    decodeTableWord 16 0x5A29 = some (.andImm 0x5A#8) ∧
    decodeTableWord 16 0x5A25 = some (.andZp 0x5A#8) ∧
    decodeTableWord 16 0x5A35 = some (.andZpx 0x5A#8) ∧
    decodeTableWord 24 0x12342D = some (.andAbs 0x1234#16) ∧
    decodeTableWord 24 0x12343D = some (.andAbsx 0x1234#16) ∧
    decodeTableWord 24 0x123439 = some (.andAbsy 0x1234#16) ∧
    decodeTableWord 16 0x5A21 = some (.andIndx 0x5A#8) ∧
    decodeTableWord 16 0x5A31 = some (.andIndy 0x5A#8) := by decide

theorem test_decode_ora :
    decodeTableWord 16 0x5A09 = some (.oraImm 0x5A#8) ∧
    decodeTableWord 16 0x5A05 = some (.oraZp 0x5A#8) ∧
    decodeTableWord 16 0x5A15 = some (.oraZpx 0x5A#8) ∧
    decodeTableWord 24 0x12340D = some (.oraAbs 0x1234#16) ∧
    decodeTableWord 24 0x12341D = some (.oraAbsx 0x1234#16) ∧
    decodeTableWord 24 0x123419 = some (.oraAbsy 0x1234#16) ∧
    decodeTableWord 16 0x5A01 = some (.oraIndx 0x5A#8) ∧
    decodeTableWord 16 0x5A11 = some (.oraIndy 0x5A#8) := by decide

theorem test_decode_eor :
    decodeTableWord 16 0x5A49 = some (.eorImm 0x5A#8) ∧
    decodeTableWord 16 0x5A45 = some (.eorZp 0x5A#8) ∧
    decodeTableWord 16 0x5A55 = some (.eorZpx 0x5A#8) ∧
    decodeTableWord 24 0x12344D = some (.eorAbs 0x1234#16) ∧
    decodeTableWord 24 0x12345D = some (.eorAbsx 0x1234#16) ∧
    decodeTableWord 24 0x123459 = some (.eorAbsy 0x1234#16) ∧
    decodeTableWord 16 0x5A41 = some (.eorIndx 0x5A#8) ∧
    decodeTableWord 16 0x5A51 = some (.eorIndy 0x5A#8) := by decide

theorem test_decode_cmp :
    decodeTableWord 16 0x5AC9 = some (.cmpImm 0x5A#8) ∧
    decodeTableWord 16 0x5AC5 = some (.cmpZp 0x5A#8) ∧
    decodeTableWord 16 0x5AD5 = some (.cmpZpx 0x5A#8) ∧
    decodeTableWord 24 0x1234CD = some (.cmpAbs 0x1234#16) ∧
    decodeTableWord 24 0x1234DD = some (.cmpAbsx 0x1234#16) ∧
    decodeTableWord 24 0x1234D9 = some (.cmpAbsy 0x1234#16) ∧
    decodeTableWord 16 0x5AC1 = some (.cmpIndx 0x5A#8) ∧
    decodeTableWord 16 0x5AD1 = some (.cmpIndy 0x5A#8) := by decide

theorem test_decode_cpx :
    decodeTableWord 16 0x5AE0 = some (.cpxImm 0x5A#8) ∧
    decodeTableWord 16 0x5AE4 = some (.cpxZp 0x5A#8) ∧
    decodeTableWord 24 0x1234EC = some (.cpxAbs 0x1234#16) := by decide

theorem test_decode_cpy :
    decodeTableWord 16 0x5AC0 = some (.cpyImm 0x5A#8) ∧
    decodeTableWord 16 0x5AC4 = some (.cpyZp 0x5A#8) ∧
    decodeTableWord 24 0x1234CC = some (.cpyAbs 0x1234#16) := by decide

theorem test_decode_bit :
    decodeTableWord 16 0x5A24 = some (.bitZp 0x5A#8) ∧
    decodeTableWord 24 0x12342C = some (.bitAbs 0x1234#16) := by decide

theorem test_decode_asl :
    decodeTableWord 8 0x0A = some .aslAcc ∧
    decodeTableWord 16 0x5A06 = some (.aslZp 0x5A#8) ∧
    decodeTableWord 16 0x5A16 = some (.aslZpx 0x5A#8) ∧
    decodeTableWord 24 0x12340E = some (.aslAbs 0x1234#16) ∧
    decodeTableWord 24 0x12341E = some (.aslAbsx 0x1234#16) := by decide

theorem test_decode_lsr :
    decodeTableWord 8 0x4A = some .lsrAcc ∧
    decodeTableWord 16 0x5A46 = some (.lsrZp 0x5A#8) ∧
    decodeTableWord 16 0x5A56 = some (.lsrZpx 0x5A#8) ∧
    decodeTableWord 24 0x12344E = some (.lsrAbs 0x1234#16) ∧
    decodeTableWord 24 0x12345E = some (.lsrAbsx 0x1234#16) := by decide

theorem test_decode_rol :
    decodeTableWord 8 0x2A = some .rolAcc ∧
    decodeTableWord 16 0x5A26 = some (.rolZp 0x5A#8) ∧
    decodeTableWord 16 0x5A36 = some (.rolZpx 0x5A#8) ∧
    decodeTableWord 24 0x12342E = some (.rolAbs 0x1234#16) ∧
    decodeTableWord 24 0x12343E = some (.rolAbsx 0x1234#16) := by decide

theorem test_decode_ror :
    decodeTableWord 8 0x6A = some .rorAcc ∧
    decodeTableWord 16 0x5A66 = some (.rorZp 0x5A#8) ∧
    decodeTableWord 16 0x5A76 = some (.rorZpx 0x5A#8) ∧
    decodeTableWord 24 0x12346E = some (.rorAbs 0x1234#16) ∧
    decodeTableWord 24 0x12347E = some (.rorAbsx 0x1234#16) := by decide

theorem test_decode_inc :
    decodeTableWord 16 0x5AE6 = some (.incZp 0x5A#8) ∧
    decodeTableWord 16 0x5AF6 = some (.incZpx 0x5A#8) ∧
    decodeTableWord 24 0x1234EE = some (.incAbs 0x1234#16) ∧
    decodeTableWord 24 0x1234FE = some (.incAbsx 0x1234#16) := by decide

theorem test_decode_dec :
    decodeTableWord 16 0x5AC6 = some (.decZp 0x5A#8) ∧
    decodeTableWord 16 0x5AD6 = some (.decZpx 0x5A#8) ∧
    decodeTableWord 24 0x1234CE = some (.decAbs 0x1234#16) ∧
    decodeTableWord 24 0x1234DE = some (.decAbsx 0x1234#16) := by decide

theorem test_decode_inx :
    decodeTableWord 8 0xE8 = some .inx := by decide

theorem test_decode_iny :
    decodeTableWord 8 0xC8 = some .iny := by decide

theorem test_decode_dex :
    decodeTableWord 8 0xCA = some .dex := by decide

theorem test_decode_dey :
    decodeTableWord 8 0x88 = some .dey := by decide

theorem test_decode_bcc :
    decodeTableWord 16 0x5A90 = some (.bcc 0x5A#8) := by decide

theorem test_decode_bcs :
    decodeTableWord 16 0x5AB0 = some (.bcs 0x5A#8) := by decide

theorem test_decode_beq :
    decodeTableWord 16 0x5AF0 = some (.beq 0x5A#8) := by decide

theorem test_decode_bne :
    decodeTableWord 16 0x5AD0 = some (.bne 0x5A#8) := by decide

theorem test_decode_bpl :
    decodeTableWord 16 0x5A10 = some (.bpl 0x5A#8) := by decide

theorem test_decode_bmi :
    decodeTableWord 16 0x5A30 = some (.bmi 0x5A#8) := by decide

theorem test_decode_bvc :
    decodeTableWord 16 0x5A50 = some (.bvc 0x5A#8) := by decide

theorem test_decode_bvs :
    decodeTableWord 16 0x5A70 = some (.bvs 0x5A#8) := by decide

theorem test_decode_jmp :
    decodeTableWord 24 0x12344C = some (.jmpAbs 0x1234#16) ∧
    decodeTableWord 24 0x12346C = some (.jmpInd 0x1234#16) := by decide

theorem test_decode_jsr :
    decodeTableWord 24 0x123420 = some (.jsr 0x1234#16) := by decide

theorem test_decode_rts :
    decodeTableWord 8 0x60 = some .rts := by decide

theorem test_decode_clc :
    decodeTableWord 8 0x18 = some .clc := by decide

theorem test_decode_sec :
    decodeTableWord 8 0x38 = some .sec := by decide

theorem test_decode_cli :
    decodeTableWord 8 0x58 = some .cli := by decide

theorem test_decode_sei :
    decodeTableWord 8 0x78 = some .sei := by decide

theorem test_decode_clv :
    decodeTableWord 8 0xB8 = some .clv := by decide

theorem test_decode_cld :
    decodeTableWord 8 0xD8 = some .cld := by decide

theorem test_decode_sed :
    decodeTableWord 8 0xF8 = some .sed := by decide

theorem test_decode_nop :
    decodeTableWord 8 0xEA = some .nop := by decide

theorem test_decode_brk :
    decodeTableWord 8 0x00 = some .brk := by decide

theorem test_decode_rti :
    decodeTableWord 8 0x40 = some .rti := by decide

theorem test_decode_aac :
    decodeTableWord 16 0x5A0B = some (.aac0B 0x5A#8) ∧
    decodeTableWord 16 0x5A2B = some (.aac2B 0x5A#8) := by decide

theorem test_decode_aax :
    decodeTableWord 16 0x5A87 = some (.aaxZp 0x5A#8) ∧
    decodeTableWord 16 0x5A97 = some (.aaxZpy 0x5A#8) ∧
    decodeTableWord 24 0x12348F = some (.aaxAbs 0x1234#16) ∧
    decodeTableWord 16 0x5A83 = some (.aaxIndx 0x5A#8) := by decide

theorem test_decode_arr :
    decodeTableWord 16 0x5A6B = some (.arr 0x5A#8) := by decide

/-- 30_encoding.md R78, and R79 for the option. -/
theorem test_undefined_opcodes_are_rejected_by_name :
    decode false [0x02#8, 0x00#8, 0x00#8] = .error (.unknownOpcode 0x02#8) ∧
      decode false [0x87#8, 0x10#8, 0x00#8] = .error (.unknownOpcode 0x87#8) ∧
      decode true [0x02#8, 0x00#8, 0x00#8] = .error (.unknownOpcode 0x02#8) ∧
      decodeTableWord 8 0x02 = none := by decide

theorem test_decode_rejects_a_cut_instruction :
    decode false [] = .error .endOfBytes ∧ decode false [0xA9#8] = .error .endOfBytes ∧
      decode false [0xAD#8, 0x34#8] = .error .endOfBytes := by decide

theorem test_encode_puts_the_low_byte_first :
    encode (.ldaAbs 0x1234#16) = [0xAD#8, 0x34#8, 0x12#8] ∧ Instr.length (.ldaAbs 0x1234#16) = 3 := by decide

/-! ## One step -/

/-- `bytes` at `0x8000`, the block at a boundary there, everything else as after reset (95_test_vectors.md). -/
def start (bytes : List Byte) : State :=
  writeBlock 0x8000#16 bytes { State.reset with pc := 0x8000#16, wait := 0 }

/-- Other cells of memory. -/
def withCells (cells : List (Word × Byte)) (s : State) : State :=
  cells.foldl (fun t c => rawWrite c.1 c.2 t) s

/-- What one step leaves, seen through `f`. -/
def afterStep {α : Type} (f : State → α) (s : State) : Option α :=
  match step s with
  | .next t => some (f t)
  | .fault _ => none
  | .refused _ => none

/-- The flags N V D I Z C as one list. -/
def nvdizc (s : State) : List Bool := [s.p.n, s.p.v, s.p.d, s.p.i, s.p.z, s.p.c]

/-- Flags with I as after reset. -/
def flags (n v z c : Bool) : Flags := { n := n, v := v, d := false, i := true, z := z, c := c }

/-- M7 -/
theorem test_lda_indexed_page_cross :
    afterStep (fun t => (t.a, nvdizc t, t.pc, t.wait))
      (withCells [(0x0001#16, 0x77#8)] { start [0xB9#8, 0xFF#8, 0xFF#8] with y := 0x02#8 }) =
      some (0x77#8, [false, false, false, true, false, false], 0x8003#16, 4) := by decide

/-- M8 -/
theorem test_lda_indirect_x_pointer_wraps :
    afterStep (fun t => (t.a, nvdizc t, t.pc, t.wait))
      (withCells [(0x00FF#16, 0x34#8), (0x0000#16, 0x02#8), (0x0100#16, 0x09#8), (0x0234#16, 0x88#8)] { start [0xA1#8, 0xFE#8] with x := 0x01#8 }) =
      some (0x88#8, [true, false, false, true, false, false], 0x8002#16, 5) := by decide

/-- M2 -/
theorem test_ldx_zero_page_y :
    afterStep (fun t => (t.x, nvdizc t, t.pc, t.wait))
      (withCells [(0x007F#16, 0x33#8)] { start [0xB6#8, 0x80#8] with y := 0xFF#8 }) =
      some (0x33#8, [false, false, false, true, false, false], 0x8002#16, 3) := by decide

/-- R122, example -/
theorem test_ldy_absolute_x :
    afterStep (fun t => (t.y, nvdizc t, t.pc, t.wait))
      (withCells [(0x0300#16, 0x7F#8)] { start [0xBC#8, 0xFF#8, 0x02#8] with x := 0x01#8 }) =
      some (0x7F#8, [false, false, false, true, false, false], 0x8003#16, 4) := by decide

/-- M13: a store never pays the page-cross cycle -/
theorem test_sta_indirect_y :
    afterStep (fun t => (rawRead 0x0300#16 t, nvdizc t, t.wait))
      (withCells [(0x0010#16, 0xFF#8), (0x0011#16, 0x02#8)] { start [0x91#8, 0x10#8] with y := 0x01#8, a := 0xEE#8 }) =
      some (0xEE#8, [false, false, false, true, false, false], 5) := by decide

/-- T4 -/
theorem test_sta_writes_no_flag :
    afterStep (fun t => (rawRead 0x0010#16 t, nvdizc t, t.wait))
      ({ start [0x85#8, 0x10#8] with p := flags true false false false }) =
      some (0x00#8, [true, false, false, true, false, false], 2) := by decide

/-- T5 -/
theorem test_stx_through_a_ram_mirror :
    afterStep (fun t => (t.mem.read 0x0000, t.mem.read 0x0800, t.wait))
      ({ start [0x8E#8, 0x00#8, 0x08#8] with x := 0x5A#8 }) =
      some (0x5A#8, 0x00#8, 3) := by decide

/-- R125, example -/
theorem test_sty_to_the_control_register :
    afterStep (fun t => (t.ppu.ctrl, rawRead 0x2000#16 t, t.wait))
      ({ start [0x8C#8, 0x00#8, 0x20#8] with y := 0x80#8 }) =
      some (0x80#8, 0x80#8, 3) := by decide

/-- T6 -/
theorem test_tax :
    afterStep (fun t => (t.x, nvdizc t, t.pc, t.wait))
      ({ start [0xAA#8] with a := 0x80#8 }) =
      some (0x80#8, [true, false, false, true, false, false], 0x8001#16, 1) := by decide

/-- R127, example -/
theorem test_tay :
    afterStep (fun t => (t.y, nvdizc t, t.pc, t.wait))
      ({ start [0xA8#8] with a := 0xF0#8 }) =
      some (0xF0#8, [true, false, false, true, false, false], 0x8001#16, 1) := by decide

/-- R128, example -/
theorem test_txa :
    afterStep (fun t => (t.a, nvdizc t, t.pc, t.wait))
      ({ start [0x8A#8] with x := 0x7F#8 }) =
      some (0x7F#8, [false, false, false, true, false, false], 0x8001#16, 1) := by decide

/-- T7 -/
theorem test_tya :
    afterStep (fun t => (t.a, nvdizc t, t.pc, t.wait))
      ({ start [0x98#8] with a := 0x33#8 }) =
      some (0x00#8, [false, false, false, true, true, false], 0x8001#16, 1) := by decide

/-- T8 -/
theorem test_tsx :
    afterStep (fun t => (t.x, nvdizc t, t.pc, t.wait))
      (start [0xBA#8]) =
      some (0xFD#8, [true, false, false, true, false, false], 0x8001#16, 1) := by decide

/-- T9 -/
theorem test_txs_writes_no_flag :
    afterStep (fun t => (t.sp, nvdizc t, t.pc, t.wait))
      (start [0x9A#8]) =
      some (0x00#8, [false, false, false, true, false, false], 0x8001#16, 1) := by decide

/-- T15 -/
theorem test_pha_wraps :
    afterStep (fun t => (t.sp, rawRead 0x0100#16 t, nvdizc t, t.wait))
      ({ start [0x48#8] with sp := 0x00#8, a := 0x77#8 }) =
      some (0xFF#8, 0x77#8, [false, false, false, true, false, false], 2) := by decide

/-- T11 -/
theorem test_php_sets_bits_5_and_4 :
    afterStep (fun t => (t.sp, rawRead 0x01FD#16 t, nvdizc t, t.wait))
      ({ start [0x08#8] with p := flags true false false true }) =
      some (0xFC#8, 0xB5#8, [true, false, false, true, false, true], 2) := by decide

/-- T16 -/
theorem test_pla_wraps :
    afterStep (fun t => (t.a, t.sp, nvdizc t, t.wait))
      (withCells [(0x0100#16, 0x99#8)] { start [0x68#8] with sp := 0xFF#8 }) =
      some (0x99#8, 0x00#8, [true, false, false, true, false, false], 3) := by decide

/-- R135, example -/
theorem test_plp_ignores_bits_5_and_4 :
    afterStep (fun t => (t.sp, nvdizc t, t.wait))
      (withCells [(0x01FD#16, 0xC3#8)] { start [0x28#8] with sp := 0xFC#8 }) =
      some (0xFD#8, [true, true, false, false, true, true], 3) := by decide

/-- E1 -/
theorem test_adc_overflow :
    afterStep (fun t => (t.a, nvdizc t, t.pc, t.wait))
      ({ start [0x69#8, 0x50#8] with a := 0x50#8 }) =
      some (0xA0#8, [true, true, false, true, false, false], 0x8002#16, 1) := by decide

/-- 2.1, 0x7F + 0x80 + 1 -/
theorem test_adc_carry_in_and_out :
    afterStep (fun t => (t.a, nvdizc t, t.pc, t.wait))
      ({ start [0x69#8, 0x80#8] with a := 0x7F#8, p := flags false false false true }) =
      some (0x00#8, [false, false, false, true, true, true], 0x8002#16, 1) := by decide

/-- R141 -/
theorem test_sbc_overflow :
    afterStep (fun t => (t.a, nvdizc t, t.pc, t.wait))
      ({ start [0xE9#8, 0x01#8] with a := 0x80#8, p := flags false false false true }) =
      some (0x7F#8, [false, true, false, true, false, true], 0x8002#16, 1) := by decide

/-- L4 -/
theorem test_and :
    afterStep (fun t => (t.a, nvdizc t, t.pc, t.wait))
      (withCells [(0x0010#16, 0x55#8)] { start [0x25#8, 0x10#8] with a := 0xAA#8 }) =
      some (0x00#8, [false, false, false, true, true, false], 0x8002#16, 2) := by decide

/-- L2 -/
theorem test_ora :
    afterStep (fun t => (t.a, nvdizc t, t.pc, t.wait))
      ({ start [0x09#8, 0x80#8] with a := 0x01#8 }) =
      some (0x81#8, [true, false, false, true, false, false], 0x8002#16, 1) := by decide

/-- L3 -/
theorem test_eor_keeps_c_and_v :
    afterStep (fun t => (t.a, nvdizc t, t.pc, t.wait))
      ({ start [0x49#8, 0xFF#8] with a := 0xFF#8, p := flags false true false true }) =
      some (0x00#8, [false, true, false, true, true, true], 0x8002#16, 1) := by decide

/-- 2.3, 0x80 - 0x00 -/
theorem test_cmp_signed16 :
    afterStep (fun t => (t.a, nvdizc t, t.pc, t.wait))
      ({ start [0xC9#8, 0x00#8] with a := 0x80#8 }) =
      some (0x80#8, [false, false, false, true, false, true], 0x8002#16, 1) := by decide

/-- 2.3, 0x80 - 0x00, the other rule -/
theorem test_cmp_bit7 :
    afterStep (fun t => (t.a, nvdizc t, t.pc, t.wait))
      ({ start [0xC9#8, 0x00#8] with a := 0x80#8, cfg := { Config.default with cmpNRule := .bit7 } }) =
      some (0x80#8, [true, false, false, true, false, true], 0x8002#16, 1) := by decide

/-- R146, example -/
theorem test_cpx :
    afterStep (fun t => (t.x, nvdizc t, t.pc, t.wait))
      ({ start [0xE0#8, 0x10#8] with x := 0x10#8 }) =
      some (0x10#8, [false, false, false, true, true, true], 0x8002#16, 1) := by decide

/-- 2.3, 0x00 - 0xFF -/
theorem test_cpy :
    afterStep (fun t => (t.y, nvdizc t, t.pc, t.wait))
      (start [0xC0#8, 0xFF#8]) =
      some (0x00#8, [true, false, false, true, false, false], 0x8002#16, 1) := by decide

/-- L6 -/
theorem test_bit :
    afterStep (fun t => (t.a, nvdizc t, t.pc, t.wait))
      (withCells [(0x0010#16, 0x40#8)] { start [0x24#8, 0x10#8] with a := 0x40#8, p := flags true false false false }) =
      some (0x40#8, [false, true, false, true, false, false], 0x8002#16, 2) := by decide

/-- R148, P4: the read clears the flag -/
theorem test_bit_reads_vblank :
    afterStep (fun t => (t.p.n, t.ppu.status, t.ppu.w, t.wait))
      ({ start [0x2C#8, 0x02#8, 0x20#8] with ppu := { TimingUnit.reset with status := 0x80#8, w := true } }) =
      some (true, 0x00#8, false, 3) := by decide

/-- S1 -/
theorem test_asl :
    afterStep (fun t => (t.a, nvdizc t, t.pc, t.wait))
      ({ start [0x0A#8] with a := 0x81#8 }) =
      some (0x02#8, [false, false, false, true, false, true], 0x8001#16, 1) := by decide

/-- S11 -/
theorem test_lsr :
    afterStep (fun t => (rawRead 0x0001#16 t, nvdizc t, t.wait))
      (withCells [(0x0001#16, 0x02#8)] { start [0x56#8, 0xFF#8] with x := 0x02#8 }) =
      some (0x01#8, [false, false, false, true, false, false], 5) := by decide

/-- S5 -/
theorem test_rol :
    afterStep (fun t => (t.a, nvdizc t, t.pc, t.wait))
      ({ start [0x2A#8] with a := 0x40#8, p := flags false false false true }) =
      some (0x81#8, [true, false, false, true, false, false], 0x8001#16, 1) := by decide

/-- S10 -/
theorem test_ror_absolute_x :
    afterStep (fun t => (rawRead 0x0300#16 t, nvdizc t, t.wait))
      (withCells [(0x0300#16, 0x01#8)] { start [0x7E#8, 0xFF#8, 0x02#8] with x := 0x01#8, p := flags false false false true }) =
      some (0x80#8, [true, false, false, true, false, true], 6) := by decide

/-- I1 -/
theorem test_inc_keeps_carry :
    afterStep (fun t => (rawRead 0x0010#16 t, nvdizc t, t.wait))
      (withCells [(0x0010#16, 0xFF#8)] { start [0xE6#8, 0x10#8] with p := flags false false false true }) =
      some (0x00#8, [false, false, false, true, true, true], 4) := by decide

/-- R170, R301 -/
theorem test_inc_of_the_data_port_advances_twice :
    afterStep (fun t => (t.ppu.ptr, t.ppu.vram, rawRead 0x2007#16 t))
      ({ start [0xEE#8, 0x07#8, 0x20#8] with ppu := { TimingUnit.reset with ptr := 0x2108#14, buf := 0x41#8 } }) =
      some (0x210A#14, [(0x2109, 0x42#8)], 0x42#8) := by decide

/-- I4 -/
theorem test_dec :
    afterStep (fun t => (rawRead 0x0300#16 t, nvdizc t, t.wait))
      (withCells [(0x0300#16, 0x01#8)] { start [0xDE#8, 0xFF#8, 0x02#8] with x := 0x01#8 }) =
      some (0x00#8, [false, false, false, true, true, false], 6) := by decide

/-- I5 -/
theorem test_inx :
    afterStep (fun t => (t.x, nvdizc t, t.pc, t.wait))
      ({ start [0xE8#8] with x := 0xFF#8 }) =
      some (0x00#8, [false, false, false, true, true, false], 0x8001#16, 1) := by decide

/-- I6 -/
theorem test_iny :
    afterStep (fun t => (t.y, nvdizc t, t.pc, t.wait))
      ({ start [0xC8#8] with y := 0x7F#8 }) =
      some (0x80#8, [true, false, false, true, false, false], 0x8001#16, 1) := by decide

/-- I7 -/
theorem test_dex :
    afterStep (fun t => (t.x, nvdizc t, t.pc, t.wait))
      (start [0xCA#8]) =
      some (0xFF#8, [true, false, false, true, false, false], 0x8001#16, 1) := by decide

/-- I8 -/
theorem test_dey :
    afterStep (fun t => (t.y, nvdizc t, t.pc, t.wait))
      ({ start [0x88#8] with y := 0x01#8 }) =
      some (0x00#8, [false, false, false, true, true, false], 0x8001#16, 1) := by decide

/-- B1 -/
theorem test_bcc :
    afterStep (fun t => (t.pc, t.wait))
      ({ start [0x90#8, 0x05#8] with p := flags false false false false }) =
      some (0x8007#16, 2) := by decide

/-- R182 -/
theorem test_bcs_not_taken :
    afterStep (fun t => (t.pc, t.wait))
      ({ start [0xB0#8, 0x20#8] with p := flags false false false false }) =
      some (0x8002#16, 1) := by decide

/-- B4 -/
theorem test_beq :
    afterStep (fun t => (t.pc, t.wait))
      ({ start [0xF0#8, 0xFE#8] with p := flags false false true false }) =
      some (0x8000#16, 2) := by decide

/-- B10 -/
theorem test_bne :
    afterStep (fun t => (t.pc, t.wait))
      ({ start [0xD0#8, 0x7F#8] with p := flags false false false false }) =
      some (0x8081#16, 2) := by decide

/-- R185 -/
theorem test_bpl :
    afterStep (fun t => (t.pc, t.wait))
      ({ start [0x10#8, 0xFB#8] with p := flags false false false false }) =
      some (0x7FFD#16, 3) := by decide

/-- R186, example -/
theorem test_bmi :
    afterStep (fun t => (t.pc, t.wait))
      ({ start [0x30#8, 0x7F#8] with p := flags true false false false }) =
      some (0x8081#16, 2) := by decide

/-- B6 -/
theorem test_bvc :
    afterStep (fun t => (t.pc, t.wait))
      ({ start [0x50#8, 0x80#8] with p := flags false false false false }) =
      some (0x7F82#16, 3) := by decide

/-- R188, example -/
theorem test_bvs_not_taken :
    afterStep (fun t => (t.pc, t.wait))
      ({ start [0x70#8, 0x02#8] with p := flags false false false false }) =
      some (0x8002#16, 1) := by decide

/-- J2 -/
theorem test_jmp_indirect_page_wrap :
    afterStep (fun t => (t.pc, t.wait))
      (withCells [(0x02FF#16, 0x34#8), (0x0200#16, 0x12#8), (0x0300#16, 0x56#8)] (start [0x6C#8, 0xFF#8, 0x02#8])) =
      some (0x1234#16, 4) := by decide

/-- J8 -/
theorem test_jsr_wraps :
    afterStep (fun t => (t.pc, t.sp, rawRead 0x0100#16 t, rawRead 0x01FF#16 t, t.wait))
      ({ start [0x20#8, 0x00#8, 0x90#8] with sp := 0x00#8 }) =
      some (0x9000#16, 0xFE#8, 0x80#8, 0x02#8, 5) := by decide

/-- J6 -/
theorem test_rts :
    afterStep (fun t => (t.pc, t.sp, t.wait))
      (withCells [(0x01FC#16, 0xFF#8), (0x01FD#16, 0xFF#8)] { start [0x60#8] with sp := 0xFB#8 }) =
      some (0x0000#16, 0xFD#8, 5) := by decide

/-- F1 -/
theorem test_clc :
    afterStep (fun t => (nvdizc t, t.pc, t.wait))
      ({ start [0x18#8] with p := flagsOfByte 0xC7#8 }) =
      some ([true, true, false, true, true, false], 0x8001#16, 1) := by decide

/-- F2 -/
theorem test_sec :
    afterStep (fun t => (nvdizc t, t.pc, t.wait))
      ({ start [0x38#8] with p := flagsOfByte 0x00#8 }) =
      some ([false, false, false, false, false, true], 0x8001#16, 1) := by decide

/-- F3 -/
theorem test_cli :
    afterStep (fun t => (nvdizc t, t.pc, t.wait))
      ({ start [0x58#8] with p := flagsOfByte 0x04#8 }) =
      some ([false, false, false, false, false, false], 0x8001#16, 1) := by decide

/-- F4 -/
theorem test_sei :
    afterStep (fun t => (nvdizc t, t.pc, t.wait))
      ({ start [0x78#8] with p := flagsOfByte 0x00#8 }) =
      some ([false, false, false, true, false, false], 0x8001#16, 1) := by decide

/-- F5 -/
theorem test_clv :
    afterStep (fun t => (nvdizc t, t.pc, t.wait))
      ({ start [0xB8#8] with p := flagsOfByte 0x44#8 }) =
      some ([false, false, false, true, false, false], 0x8001#16, 1) := by decide

/-- F6 -/
theorem test_cld :
    afterStep (fun t => (nvdizc t, t.pc, t.wait))
      ({ start [0xD8#8] with p := flagsOfByte 0x0C#8 }) =
      some ([false, false, false, true, false, false], 0x8001#16, 1) := by decide

/-- F7 -/
theorem test_sed :
    afterStep (fun t => (nvdizc t, t.pc, t.wait))
      ({ start [0xF8#8] with p := flagsOfByte 0x04#8 }) =
      some ([false, false, true, true, false, false], 0x8001#16, 1) := by decide

/-- F8 -/
theorem test_nop :
    afterStep (fun t => (nvdizc t, t.pc, t.wait))
      ({ start [0xEA#8] with p := flagsOfByte 0x85#8 }) =
      some ([true, false, false, true, false, true], 0x8001#16, 1) := by decide

/-- K3 -/
theorem test_brk :
    afterStep (fun t => ([rawRead 0x01FD#16 t, rawRead 0x01FC#16 t, rawRead 0x01FB#16 t, t.sp], nvdizc t, t.pc, t.wait))
      (withCells [(0xFFFE#16, 0x00#8), (0xFFFF#16, 0x90#8)] { start [0x00#8] with p := flagsOfByte 0x0D#8 }) =
      some ([0x80#8, 0x02#8, 0x3D#8, 0xFA#8], [false, false, true, true, false, true], 0x9000#16, 6) := by decide

/-- K4 -/
theorem test_rti :
    afterStep (fun t => (t.sp, nvdizc t, t.pc, t.wait))
      (withCells [(0x01FB#16, 0xFF#8), (0x01FC#16, 0x34#8), (0x01FD#16, 0x12#8)] { start [0x40#8] with sp := 0xFA#8 }) =
      some (0xFD#8, [true, true, true, true, true, true], 0x1234#16, 5) := by decide

/-- X4 -/
theorem test_aac :
    afterStep (fun t => (t.a, nvdizc t, t.pc, t.wait))
      ({ start [0x0B#8, 0x80#8] with a := 0xF0#8, cfg := { Config.default with unofficial := true } }) =
      some (0x80#8, [true, false, false, true, false, true], 0x8002#16, 1) := by decide

/-- X7 -/
theorem test_aax :
    afterStep (fun t => (rawRead 0x0300#16 t, nvdizc t, t.wait))
      (withCells [(0x0030#16, 0x03#8)] { start [0x83#8, 0x20#8] with a := 0xFF#8, x := 0x0F#8, cfg := { Config.default with unofficial := true } }) =
      some (0x0F#8, [false, false, false, true, false, false], 5) := by decide

/-- X6 -/
theorem test_arr :
    afterStep (fun t => (t.a, nvdizc t, t.pc, t.wait))
      ({ start [0x6B#8, 0x80#8] with a := 0x80#8, cfg := { Config.default with unofficial := true } }) =
      some (0x40#8, [false, true, false, true, false, true], 0x8002#16, 1) := by decide

/-- X2 -/
theorem test_unknown_opcode_halts :
    afterStep (fun t => (t.halted, t.pc, t.wait, t.ppu.cycle))
      ({ start [0x87#8, 0x10#8] with a := 0xF0#8, x := 0x3C#8 }) =
      some (some { op := 0x87#8, pc := 0x8000#16 }, 0x8001#16, 0, 0) := by decide

/-- K8 -/
theorem test_nmi_beats_irq :
    afterStep (fun t => ([rawRead 0x01FD#16 t, rawRead 0x01FC#16 t, rawRead 0x01FB#16 t, t.sp], t.p.i, t.nmiPending, t.pc, t.wait))
      (withCells [(0xFFFA#16, 0x00#8), (0xFFFB#16, 0xA0#8)] { start [0xEA#8] with pc := 0x8123#16, p := flagsOfByte 0x02#8, nmiPending := true, host := [.tick true] }) =
      some ([0x81#8, 0x23#8, 0x22#8, 0xFA#8], true, false, 0xA000#16, 6) := by decide

/-- K6 -/
theorem test_irq_entry :
    afterStep (fun t => (rawRead 0x01FB#16 t, t.p.i, t.pc, t.wait))
      (withCells [(0xFFFE#16, 0x00#8), (0xFFFF#16, 0x90#8)] { start [0xEA#8] with pc := 0x8123#16, p := flagsOfByte 0x02#8, host := [.tick true] }) =
      some (0x22#8, true, 0x9000#16, 6) := by decide

/-- K7 -/
theorem test_masked_irq_runs_the_instruction :
    afterStep (fun t => (t.pc, t.wait, t.host))
      ({ start [0xEA#8] with host := [.tick true] }) =
      some (0x8001#16, 1, []) := by decide

/-- R290, E7, and R293: both resets from a state that has run. -/
theorem test_resets :
    afterStep (fun t => (t.pc, t.sp, pByte t.p false, t.wait, rawRead 0x4015#16 t))
      (withCells [(0xFFFC#16, 0x00#8), (0xFFFD#16, 0xC0#8), (0x4015#16, 0x0F#8)]
        { start [] with a := 0x55#8, sp := 0x10#8, p := flagsOfByte 0xFB#8, host := [.cpuReset] }) =
      some (0xC000#16, 0xFD#8, 0x24#8, 8, 0x00#8) := by decide

theorem test_ppu_reset_keeps_vram :
    afterStep (fun t => t.ppu)
      { start [] with
        ppu := { TimingUnit.reset with ctrl := 0x80#8, ptr := 0x2108#14, vram := [(5, 0x77#8)] }
        host := [.ppuReset] } =
      some { TimingUnit.reset with vram := [(5, 0x77#8)] } := by decide

/-- R44: a raw write, no Timing Unit effect, and it wraps. -/
theorem test_write_block_bypasses_the_bridge_and_wraps :
    ((writeBlock 0x2000#16 [0x80#8] State.reset).ppu.ctrl, rawRead 0x2000#16 (writeBlock 0x2000#16 [0x80#8] State.reset)) =
      (0x00#8, 0x80#8) ∧
    (writeBlock 0xFFFF#16 [0x11#8, 0x22#8] State.reset).mem = [(0x0000, 0x22#8), (0xFFFF, 0x11#8)] := by decide

/-- R296: the character data fill `vram` from index 0; a list that is no bank of program is no image. -/
theorem test_boot_parts :
    (loadVram 0 [0x11#8, 0x00#8, 0x33#8] State.reset).ppu.vram = [(0, 0x11#8), (2, 0x33#8)] ∧
      boot [0xEA#8] [] [] [] Config.default [] = .refused .malformedImage ∧
      ppuReset (cpuReset (unbooted [] [] Config.default [])) = State.reset :=
  ⟨by decide, rfl, by decide⟩

/-! ## The register window and the Timing Unit (2.11, E8) -/

/-- Rows 6, 7, 8 of 2.11: the address port, then the data port with `ctrl[2] = 1`. -/
theorem test_address_and_data_port :
    (memWrite 0x2007#16 0x11#8 (memWrite 0x2006#16 0x00#8 (memWrite 0x2006#16 0xFF#8
      (memWrite 0x2000#16 0x04#8 State.reset)))).ppu =
      { TimingUnit.reset with ctrl := 0x04#8, ptr := 0x3F20#14, vram := [(0x3F00, 0x11#8)] } := by decide

/-- Rows 22 and 26 of 2.11: the delayed read and the palette read. -/
theorem test_data_port_reads :
    dataRead { TimingUnit.reset with ptr := 0x2108#14, vram := [(0x2108, 0xAA#8)] } =
      (0x00#8, { TimingUnit.reset with ptr := 0x2109#14, buf := 0xAA#8, vram := [(0x2108, 0xAA#8)] }) ∧
    dataRead { TimingUnit.reset with ptr := 0x3F00#14, vram := [(0x2F00, 0x77#8), (0x3F00, 0x11#8)] } =
      (0x11#8, { TimingUnit.reset with
        ptr := 0x3F01#14, buf := 0x77#8, vram := [(0x2F00, 0x77#8), (0x3F00, 0x11#8)] }) := by decide

/-- Rows 4 and 32 of 2.11: the last mirror of the window, and a write through a mirror. -/
theorem test_window_mirrors :
    (memRead 0x3FF8#16 (memWrite 0x2000#16 0x04#8 State.reset)).1 = 0x04#8 ∧
      (memWrite 0x3456#16 0x66#8 { State.reset with ppu := { TimingUnit.reset with ptr := 0x3F02#14 } }).ppu =
        { TimingUnit.reset with w := true, ptr := 0x2602#14 } := by decide

/-- 2.10: ticks 341, 82,182 and 89,342. -/
theorem test_counters_and_vblank :
    (ppuTick { State.reset with ppu := { TimingUnit.reset with cycle := 340 } }).ppu =
      { TimingUnit.reset with scanline := 1 } ∧
    (ppuTick { State.reset with ppu := { TimingUnit.reset with scanline := 241, ctrl := 0x80#8 } }).nmiPending = true ∧
    (ppuTick { State.reset with ppu := { TimingUnit.reset with scanline := 241 } }).ppu =
      { TimingUnit.reset with scanline := 241, cycle := 1, status := 0x80#8 } ∧
    (ppuTick { State.reset with ppu := { TimingUnit.reset with scanline := 261, status := 0x80#8 } }).ppu =
      { TimingUnit.reset with scanline := 261, cycle := 1 } ∧
    (ppuTick { State.reset with ppu := { TimingUnit.reset with scanline := 261, cycle := 340 } }).ppu =
      { TimingUnit.reset with odd := true } := by decide

/-! ## The next instruction fetched, as the host places it (log 10) -/

theorem test_with_fetch_word_runs_the_very_next_step :
    afterStep (fun t => (t.a, t.pc, t.wait)) (State.reset.withFetchWord 16 0x5AA9) = some (0x5A#8, 0x0002#16, 1) ∧
      afterStep (fun t => (t.a, t.pc, t.halted)) (State.reset.withFetchWord 16 0x5A0B) =
        some (0x00#8, 0x0002#16, none) := by decide

/-! ## Witnesses: for every obligation with hypotheses, a state and operands that meet them all, clause by clause -/

theorem of_afterStep {α : Type} {f : State → α} {s : State} {v : α} (h : afterStep f s = some v) :
    ∃ t, step s = .next t ∧ f t = v := by
  unfold afterStep at h
  split at h
  · exact ⟨_, ‹_›, Option.some.inj h⟩
  · cases h
  · cases h

/-- `State.reset` at an instruction boundary, with bytes in its array. -/
def ready (bytes : Memory) : State := { State.reset with wait := 0, mem := bytes }

theorem witness_DecodeOfEncodeIsTheInstruction :
    Instr.wellFormed false (.ldaAbs 0xFFFF#16) = true ∧ Instr.wellFormed true (.arr 0xFF#8) = true := by decide

theorem witness_EncodeOfDecodeIsTheBytes :
    decode false [0xAD#8, 0xFF#8, 0xFF#8, 0x00#8] = .ok (.ldaAbs 0xFFFF#16, [0x00#8]) ∧
      decode true [0x6B#8, 0xFF#8] = .ok (.arr 0xFF#8, []) := by
  constructor <;> rfl

theorem witness_UndefinedOpcodesAreThe105 :
    (0xFF#8 ∈ Claims.undefinedBytes ∧ 0xFF#8 ∉ Claims.optionalBytes) ∧ 0x0B#8 ∈ Claims.optionalBytes ∧
      0x00#8 ∉ Claims.undefinedBytes := by decide

theorem witness_StepRunsTheDecodedInstruction :
    (ready [(0x0000, 0xA9#8), (0x0001, 0x5A#8)]).executes ∧
      decode false (fetchBytes (ready [(0x0000, 0xA9#8), (0x0001, 0x5A#8)])) = .ok (.ldaImm 0x5A#8, [0x00#8]) :=
  ⟨by decide, rfl⟩

/-- The other way to execute: the line is high and I masks it. -/
theorem witness_StepRunsTheDecodedInstruction_masked :
    ({ ready [] with host := [.tick true] } : State).executes ∧ (ready []).nextIrq = some false := by decide

theorem witness_StepExecutesEveryEncodedInstruction :
    (ready [(0x0000, 0x4C#8), (0x0001, 0x34#8), (0x0002, 0x12#8)]).executes ∧
      (Instr.jmpAbs 0x1234#16).wellFormed (ready []).cfg.unofficial = true ∧
      ∀ k < (Instr.jmpAbs 0x1234#16).length,
        fetch (0x0000#16 + BitVec.ofNat 16 k) (ready [(0x0000, 0x4C#8), (0x0001, 0x34#8), (0x0002, 0x12#8)]) =
          (encode (.jmpAbs 0x1234#16)).getD k 0x00#8 := by decide

theorem witness_UnknownOpcodeHaltsTheBlock :
    (let s := ready [(0x0000, 0x0B#8)];
      s.executes ∧ fetch s.pc s ∈ Claims.undefinedBytes ∧ s.cfg.unofficial = false) ∧
    (let s := { ready [(0x0000, 0xFF#8)] with cfg := { Config.default with unofficial := true } };
      s.executes ∧ fetch s.pc s ∈ Claims.undefinedBytes ∧ s.cfg.unofficial = true ∧
        fetch s.pc s ∉ Claims.optionalBytes) := by decide

/-- A halted block. -/
def stopped : State := { State.reset with halted := some { op := 0x02#8, pc := 0xFFFF#16 } }

theorem witness_OnlyCpuResetLeavesTheHaltedState :
    stopped.halted = some { op := 0x02#8, pc := 0xFFFF#16 } ∧ stopped.nextIrq ≠ none ∧
      stopped.host.head? ≠ some .cpuReset ∧ (∃ t, step stopped = .next t) ∧
      ({ stopped with host := [.cpuReset] } : State).host = .cpuReset :: [] :=
  ⟨rfl, by decide, by decide, ⟨_, rfl⟩, rfl⟩

theorem witness_WaitingTickOnlyCountsDown :
    let s : State := { ready [] with wait := 1, nmiPending := true, host := [.tick true] }
    s.halted = none ∧ 0 < s.wait ∧ s.nextIrq = some true := by decide

theorem witness_NmiEntryAtTheBoundary :
    let s : State := { ready [] with nmiPending := true, sp := 0x00#8, host := [.tick true] }
    s.wf ∧ s.halted = none ∧ s.wait = 0 ∧ s.nmiPending = true ∧ s.nextIrq = some true := by decide

/-- I clear, the line true. -/
def interrupted : State := { ready [] with host := [.tick true], p := { State.reset.p with i := false } }

theorem witness_IrqEntryAtTheBoundary :
    interrupted.wf ∧ interrupted.halted = none ∧ interrupted.wait = 0 ∧ interrupted.nmiPending = false ∧
      interrupted.nextIrq = some true ∧ interrupted.p.i = false := by decide

theorem witness_ReturnUndoesAnEntry :
    (ready []).mem.wf ∧ mirror 0x01FA#16 ≠ word 0x01#8 (ready []).sp ∧
      mirror 0x01FA#16 ≠ word 0x01#8 ((ready []).sp - 1#8) ∧
      mirror 0x01FA#16 ≠ word 0x01#8 ((ready []).sp - 2#8) := by decide

/-- Images on both sides of the bounds boot tests. -/
theorem witness_StepAlwaysAnswersANextState :
    imageFits (List.replicate 0x4000 0x00#8) (List.replicate 0x4000 0x00#8) ∧
      ¬imageFits (List.replicate 0x4000 0x00#8) (List.replicate 0x4001 0x00#8) ∧
      ¬imageFits (List.replicate 0x6000 0x00#8) [] := by
  simp only [imageFits, List.length_replicate, List.length_nil]
  decide

/-- Hypotheses of StepKeepsWellFormedStates, ParametersNeverChange and MirrorCellsAreNeverWritten, with the four ends of
the mirrors. -/
theorem witness_StepKeepsWellFormedStates_ParametersNeverChange_MirrorCellsAreNeverWritten :
    State.reset.wf ∧ (∃ t, step State.reset = .next t) ∧ ((0x0800 ≤ 0x0800 ∧ 0x0800 < 0x2000) ∧ 0x1FFF < 0x2000) ∧
      ((0x2008 ≤ 0x2008 ∧ 0x2008 < 0x4000) ∧ 0x3FFF < 0x4000) :=
  ⟨by decide, ⟨_, rfl⟩, by decide, by decide⟩

theorem witness_WaitStaysWithinEight :
    State.reset.cfg = Config.default ∧ State.reset.wait ≤ 8 ∧
      (ready [(0x0000, 0xEA#8)]).cfg = Config.default ∧ (ready [(0x0000, 0xEA#8)]).executes ∧
      ∃ t, step (ready [(0x0000, 0xEA#8)]) = .next t ∧ t.halted = none :=
  ⟨rfl, by decide, rfl, by decide, _, rfl, rfl⟩

theorem witness_TimingUnitAdvancesEveryTick :
    State.reset.nextIrq = some false ∧ State.reset.halted = none ∧
      ∃ t, step State.reset = .next t ∧ t.halted = none :=
  ⟨rfl, rfl, _, rfl, rfl⟩

theorem witness_CountersAfterAnyNumberOfTicks_VblankFlagOverAnyNumberOfTicks :
    State.reset.ppu.cycle = 0 ∧ State.reset.ppu.scanline = 0 ∧ State.reset.ppu.status = 0x00#8 ∧
      State.reset.cfg.vblDot = 0 := by decide

/-- `State.reset` at a dot of the frame. -/
def atDot (line : Fin 262) (dot : Fin 341) : State :=
  { State.reset with ppu := { TimingUnit.reset with scanline := line, cycle := dot } }

theorem witness_TimingUnitTickEffect :
    ((atDot 241 0).ppu.scanline = 241 ∧ (atDot 241 0).ppu.cycle = State.reset.cfg.vblDot) ∧
      ((atDot 261 0).ppu.scanline = 261 ∧ (atDot 261 0).ppu.cycle = State.reset.cfg.vblDot) ∧
      ¬((atDot 241 1).ppu.scanline = 241 ∧ (atDot 241 1).ppu.cycle = State.reset.cfg.vblDot) ∧
      ¬((atDot 241 1).ppu.scanline = 261 ∧ (atDot 241 1).ppu.cycle = State.reset.cfg.vblDot) := by decide

theorem witness_DecimalFlagHasNoEffect :
    (∃ t, exec .sed State.reset = .next t) ∧ (∃ t, exec .cld State.reset = .next t) ∧
      (∃ t, exec .plp State.reset = .next t) ∧ (∃ t, exec .rti State.reset = .next t) ∧
      (∃ t, exec (.adcImm 0x99#8) State.reset = .next t) ∧
      (Instr.adcImm 0x99#8 ≠ .sed ∧ Instr.adcImm 0x99#8 ≠ .cld ∧ Instr.adcImm 0x99#8 ≠ .plp ∧
        Instr.adcImm 0x99#8 ≠ .rti ∧ Instr.adcImm 0x99#8 ≠ .php ∧ Instr.adcImm 0x99#8 ≠ .brk) :=
  ⟨⟨_, rfl⟩, ⟨_, rfl⟩, ⟨_, rfl⟩, ⟨_, rfl⟩, ⟨_, rfl⟩, by decide⟩

theorem witness_MaskAndParityAreNeverRead :
    (∃ t, step State.reset = .next t) ∧ mirror 0x2001#16 = 0x2001#16 ∧ mirror 0x3FF9#16 = 0x2001#16 :=
  ⟨⟨_, rfl⟩, by decide, by decide⟩

theorem witness_PcAdvancesByTheLength_instructions :
    (∀ d, Instr.nop ≠ .bcc d ∧ Instr.nop ≠ .bcs d ∧ Instr.nop ≠ .beq d ∧ Instr.nop ≠ .bne d ∧ Instr.nop ≠ .bpl d ∧
      Instr.nop ≠ .bmi d ∧ Instr.nop ≠ .bvc d ∧ Instr.nop ≠ .bvs d) ∧
    (∀ w, Instr.nop ≠ .jmpAbs w ∧ Instr.nop ≠ .jmpInd w ∧ Instr.nop ≠ .jsr w) ∧ Instr.nop ≠ .rts ∧
    Instr.nop ≠ .rti ∧ Instr.nop ≠ .brk :=
  ⟨fun _ => ⟨nofun, nofun, nofun, nofun, nofun, nofun, nofun, nofun⟩, fun _ => ⟨nofun, nofun, nofun⟩, nofun, nofun,
    nofun⟩

/-- A branch not taken and a branch taken, in one state. -/
theorem witness_PcAdvancesByTheLength_branches :
    (Instr.bvs 0x80#8, false) ∈ [(Instr.bvc 0x80#8, !State.reset.p.v), (Instr.bvs 0x80#8, State.reset.p.v)] ∧
      (Instr.bvc 0x80#8, true) ∈ [(Instr.bvc 0x80#8, !State.reset.p.v), (Instr.bvs 0x80#8, State.reset.p.v)] := by
  decide

/-- A step that halts the block, and a step for each of the three reasons that leave PC alone. -/
theorem witness_PcAdvancesByTheLength_steps :
    (∃ t, step (ready [(0x0000, 0x02#8)]) = .next t ∧ t.halted ≠ (ready [(0x0000, 0x02#8)]).halted ∧
      t.halted ≠ none) ∧
    ((∃ t, step State.reset = .next t) ∧ State.reset.host.head? ≠ some .cpuReset ∧ 0 < State.reset.wait) ∧
    ((∃ t, step stopped = .next t) ∧ stopped.host.head? ≠ some .cpuReset ∧ stopped.halted ≠ none) ∧
    (let s : State := { ready [] with host := [.ppuReset] };
      (∃ t, step s = .next t) ∧ s.host.head? ≠ some .cpuReset ∧ s.nextIrq = none) := by
  obtain ⟨t, ht, h⟩ := of_afterStep (f := State.halted) (s := ready [(0x0000, 0x02#8)])
    (v := some { op := 0x02#8, pc := 0x0000#16 }) (by decide)
  exact ⟨⟨t, ht, by rw [h]; exact nofun, by rw [h]; exact nofun⟩, ⟨⟨_, rfl⟩, by decide, by decide⟩,
    ⟨⟨_, rfl⟩, by decide, by decide⟩, ⟨_, rfl⟩, by decide, rfl⟩

/-- The ends of the six ranges of the mapping. -/
theorem witness_MappingFoldsTheMirrors :
    (mirror 0x0800#16 = 0x0000#16 ∧ mirror 0x1FFF#16 = 0x07FF#16) ∧
      (mirror 0x2008#16 = 0x2000#16 ∧ mirror 0x3FFF#16 = 0x2007#16) ∧
      (mirror 0x0000#16 = 0x0000#16 ∧ mirror 0x07FF#16 = 0x07FF#16 ∧ mirror 0x2000#16 = 0x2000#16 ∧
        mirror 0x2007#16 = 0x2007#16 ∧ mirror 0x4000#16 = 0x4000#16 ∧ mirror 0xFFFF#16 = 0xFFFF#16) := by decide

theorem witness_RawAccessReadsAndWritesOneCell :
    State.reset.mem.wf ∧ mirror 0x1FFF#16 = mirror 0x07FF#16 ∧ mirror 0x2000#16 ≠ mirror 0x07FF#16 := by decide

/-- `State.reset` with a pointer. -/
def pointing (ptr : VAddr) : State := { State.reset with ppu := { TimingUnit.reset with ptr := ptr } }

theorem witness_DataReadThroughTheBridge :
    mirror 0x3FFA#16 = 0x2002#16 ∧ mirror 0x2007#16 = 0x2007#16 ∧ 0x3F00 ≤ (pointing 0x3F00#14).ppu.ptr.toNat ∧
      (pointing 0x3EFF#14).ppu.ptr.toNat < 0x3F00 ∧ mirror 0x2006#16 ≠ 0x2002#16 ∧ mirror 0x2006#16 ≠ 0x2007#16 := by
  decide

theorem witness_DataWriteThroughTheBridge :
    State.reset.wf ∧ (pointing 0x3FFF#14).wf ∧ mirror 0x2008#16 = 0x2000#16 ∧ mirror 0x2009#16 = 0x2001#16 ∧
      (mirror 0x200E#16 = 0x2006#16 ∧ State.reset.ppu.w = false) ∧
      (let s : State := { State.reset with ppu := { TimingUnit.reset with w := true } }; s.wf ∧ s.ppu.w = true) ∧
      mirror 0x3FFF#16 = 0x2007#16 ∧
      (mirror 0x2002#16 ≠ 0x2000#16 ∧ mirror 0x2002#16 ≠ 0x2001#16 ∧ mirror 0x2002#16 ≠ 0x2006#16 ∧
        mirror 0x2002#16 ≠ 0x2007#16) := by decide

/-- The one hypothesis of StackRoundTrip, StackStaysInPageOne, PushAndPullInstructions, JumpCallAndReturn and
BreakEntersAndRtiReturns (a canonical array), and of StoresWriteOneCell and MemoryShiftsAndCounts (a well-formed state),
at both ends of the stack page. -/
theorem witness_StackRoundTrip_and_other_stack_and_store_statements :
    ({ State.reset with sp := 0x00#8, mem := [(0x0100, 0x01#8), (0x01FF, 0xFF#8)] } : State).mem.wf ∧
      ({ State.reset with sp := 0xFF#8, mem := [(0x0100, 0x01#8), (0x01FF, 0xFF#8)] } : State).wf := by decide

/-- Both outcomes of each flag a branch tests. -/
theorem witness_BranchInstructions :
    (¬State.reset.p.c = true ∧ State.reset.p.c = false) ∧ (¬State.reset.p.z = true ∧ State.reset.p.z = false) ∧
      (¬State.reset.p.n = true ∧ State.reset.p.n = false) ∧ (¬State.reset.p.v = true ∧ State.reset.p.v = false) ∧
      (let p := (flagsOfByte 0xC3#8); p.c = true ∧ p.z = true ∧ p.n = true ∧ p.v = true) := by decide

theorem witness_CpuResetLeavesItsValues :
    (let s : State := { State.reset with host := [.cpuReset], mem := [(0x4000, 0x01#8)] };
      s.wf ∧ s.host = .cpuReset :: []) ∧
      0x4017#16 ∈ Config.default.apuZeroSet ∧ ∀ a ∈ Config.default.apuZeroSet, mirror 0x4014#16 ≠ mirror a :=
  ⟨by decide, by decide, by simp [Config.default, Config.apuAddresses, mirror]⟩

theorem witness_PpuResetLeavesItsValues :
    ({ State.reset with host := [.ppuReset] } : State).host = .ppuReset :: [] := rfl

/-- Both lengths of a program image, the longest and the shortest character image, the end of the zeroed set, and a cell
below `0x8000` outside it. -/
theorem witness_BootPlacesTheImageAndStartsAtItsVector :
    Memory.wf [] ∧ (∀ a ∈ Config.default.apuZeroSet, 0x4000 ≤ a.toNat ∧ a.toNat ≤ 0x401F) ∧
      ((List.replicate 0x4000 0xEA#8).length = 0x4000 ∧ (List.replicate 0x8000 0xEA#8).length = 0x8000) ∧
      ((List.replicate 0x4000 0x01#8).length ≤ 0x4000 ∧ ([] : List Byte).length ≤ 0x4000) ∧
      ∀ a ∈ Config.default.apuZeroSet, 0x7FFF ≠ a.toNat :=
  ⟨by decide, by simp [Config.default, Config.apuAddresses], by simp only [List.length_replicate, and_self],
    by rw [List.length_replicate]; decide, by simp [Config.default, Config.apuAddresses]⟩

theorem witness_EachAgentWritesItsOwnState :
    ({ State.reset with nmiPending := true } : State).nmiPending = true ∧
      (let s : State := { State.reset with host := [.cpuReset] };
        s.wf ∧ s.nextIrq = none ∧ ∃ t, step s = .next t) ∧
      (let s : State := { State.reset with host := [.ppuReset] };
        s.wf ∧ s.nextIrq = none ∧ ∃ t, step s = .next t) ∧
      ∀ a ∈ Config.default.apuZeroSet, mirror 0x4014#16 ≠ mirror a :=
  ⟨rfl, ⟨by decide, rfl, _, rfl⟩, ⟨by decide, rfl, _, rfl⟩, by simp [Config.default, Config.apuAddresses, mirror]⟩

end Sys2Proof.Tests
end

section
/-! The status byte (10_state.md R17, R20). -/

namespace Sys2Proof.Machine

/-- `PByte` as a sum: each bit at its position, bit 5 always 1 (R17, R20). -/
theorem pByte_toNat (p : Flags) (b : Bool) :
    (pByte p b).toNat = p.n.toNat * 128 + p.v.toNat * 64 + 32 + b.toNat * 16 + p.d.toNat * 8 + p.i.toNat * 4 +
      p.z.toNat * 2 + p.c.toNat := by
  obtain ⟨n, v, d, i, z, c⟩ := p
  revert n v d i z c b
  decide

/-- The bits of `PByte`, bit 0 first. -/
theorem pByte_getLsbD (p : Flags) (b : Bool) :
    (pByte p b).getLsbD 0 = p.c ∧ (pByte p b).getLsbD 1 = p.z ∧ (pByte p b).getLsbD 2 = p.i ∧
      (pByte p b).getLsbD 3 = p.d ∧ (pByte p b).getLsbD 4 = b ∧ (pByte p b).getLsbD 5 = true ∧
      (pByte p b).getLsbD 6 = p.v ∧ (pByte p b).getLsbD 7 = p.n := by
  unfold pByte
  simp only [BitVec.getLsbD_append]
  simp

/-- `SetP` undoes `PByte`, whatever the copy's B was. -/
@[simp] theorem flagsOfByte_pByte (p : Flags) (b : Bool) : flagsOfByte (pByte p b) = p := by
  simp only [flagsOfByte, pByte_getLsbD]

/-- `PByte` of the flags `SetP` takes from a byte: its bits but 5 and 4. -/
theorem pByte_flagsOfByte (v : Byte) (b : Bool) :
    pByte (flagsOfByte v) b = (v &&& 0xCF#8) ||| 0x20#8 ||| (if b then 0x10#8 else 0x00#8) := by
  apply BitVec.eq_of_getLsbD_eq
  intro k hk
  interval_cases k <;> simp only [pByte_getLsbD] <;> cases b <;> simp [flagsOfByte]

/-- Settles O40, from the sum and the bits of the status byte. -/
theorem statusByteRoundTrip : Obligations.StatusByteRoundTrip :=
  fun p b v => ⟨pByte_toNat p b, flagsOfByte_pByte p b, pByte_flagsOfByte v b⟩

end Sys2Proof.Machine
end

section
/-! What an instruction is made of. Every meaning is one of a few shapes built on the shared operations, with an update
of registers and flags put in; `instrShape` says which, once, with what the proofs about all instructions need to know of
the update, the length and the cost. -/

namespace Sys2Proof.Machine

/-- The registers, flags and parameters of `t`, with every other field of `r`. -/
def State.onto (t r : State) : State := { r with a := t.a, x := t.x, y := t.y, sp := t.sp, p := t.p, cfg := t.cfg }

/-- `f` changes at most `A`, `X`, `Y`, `SP` and `P`, and looks at nothing else but the parameters. -/
structure RegisterUpdate (f : State → State) : Prop where
  onto : ∀ t r, f (t.onto r) = (f t).onto r
  cfg : ∀ t, (f t).cfg = t.cfg

theorem RegisterUpdate.frame {f : State → State} (h : RegisterUpdate f) (t : State) :
    f t = { t with a := (f t).a, x := (f t).x, y := (f t).y, sp := (f t).sp, p := (f t).p } :=
  calc f t = (f t).onto t := h.onto t t
    _ = { t with a := (f t).a, x := (f t).x, y := (f t).y, sp := (f t).sp, p := (f t).p } := by
      rw [State.onto, h.cfg]

/-- `f` neither looks at the decimal flag nor writes it. -/
def DecimalBlind (f : State → State) : Prop := ∀ d t, f (Claims.withD d t) = Claims.withD d (f t)

/-- An update of registers and flags by a value, blind to the decimal flag. -/
structure ValueUpdate (f : Byte → State → State) : Prop where
  update : ∀ v, RegisterUpdate (f v)
  blind : ∀ v, DecimalBlind (f v)

theorem loadA_valueUpdate : ValueUpdate loadA := ⟨fun _ => ⟨fun _ _ => rfl, fun _ => rfl⟩, fun _ _ _ => rfl⟩
theorem loadX_valueUpdate : ValueUpdate loadX := ⟨fun _ => ⟨fun _ _ => rfl, fun _ => rfl⟩, fun _ _ _ => rfl⟩
theorem loadY_valueUpdate : ValueUpdate loadY := ⟨fun _ => ⟨fun _ _ => rfl, fun _ => rfl⟩, fun _ _ _ => rfl⟩

theorem setSp_valueUpdate : ValueUpdate fun v t => t.setSp v :=
  ⟨fun _ => ⟨fun _ _ => rfl, fun _ => rfl⟩, fun _ _ _ => rfl⟩

/-- AND, ORA, EOR. -/
theorem logic_valueUpdate (g : Byte → Byte → Byte) : ValueUpdate fun m t => loadA (g t.a m) t :=
  ⟨fun _ => ⟨fun _ _ => rfl, fun _ => rfl⟩, fun _ _ _ => rfl⟩

/-- CMP, CPX, CPY. -/
theorem compare_valueUpdate (reg : Byte → Byte → Byte → Byte) :
    ValueUpdate fun m t => compareReg (reg t.a t.x t.y) m t :=
  ⟨fun _ => ⟨fun _ _ => rfl, fun _ => rfl⟩, fun _ _ _ => rfl⟩

theorem bitTest_valueUpdate : ValueUpdate fun m t => t.setP (bitTest t.a m t.p) :=
  ⟨fun _ => ⟨fun _ _ => rfl, fun _ => rfl⟩, fun _ _ _ => rfl⟩

/-- `f` carries the decimal flag through and computes its result and the other flags without it. -/
def FlagsBlind (f : Byte → Flags → Byte × Flags) : Prop :=
  ∀ v p d, f v { p with d := d } = ((f v p).1, { (f v p).2 with d := d })

theorem asl_blind : FlagsBlind asl := fun _ _ _ => rfl
theorem lsr_blind : FlagsBlind lsr := fun _ _ _ => rfl
theorem rol_blind : FlagsBlind rol := fun _ _ _ => rfl
theorem ror_blind : FlagsBlind ror := fun _ _ _ => rfl
theorem inc_blind : FlagsBlind inc := fun _ _ _ => rfl
theorem dec_blind : FlagsBlind dec := fun _ _ _ => rfl

/-- An ALU operation is a value update when it carries the decimal flag through. -/
theorem aluA_valueUpdate {f : Byte → Byte → Flags → Byte × Flags}
    (h : ∀ a, FlagsBlind (f a)) : ValueUpdate (aluA f) where
  update _ := ⟨fun _ _ => rfl, fun _ => rfl⟩
  blind v d t := by
    unfold aluA
    rw [show (Claims.withD d t).p = { t.p with d := d } from rfl, show (Claims.withD d t).a = t.a from rfl, h]
    rfl

/-- The eight branches and what each tests (44_control_transfer.md R181 to R188). -/
inductive IsBranch (d : Byte) : Instr → (Flags → Bool) → Prop
  | bcc : IsBranch d (.bcc d) fun p => !p.c
  | bcs : IsBranch d (.bcs d) fun p => p.c
  | beq : IsBranch d (.beq d) fun p => p.z
  | bne : IsBranch d (.bne d) fun p => !p.z
  | bpl : IsBranch d (.bpl d) fun p => !p.n
  | bmi : IsBranch d (.bmi d) fun p => p.n
  | bvc : IsBranch d (.bvc d) fun p => !p.v
  | bvs : IsBranch d (.bvs d) fun p => p.v

section
variable {d : Byte} {i : Instr} {cond : Flags → Bool} (h : IsBranch d i cond)
include h

theorem IsBranch.exec_eq (s : State) : exec i s = branchInstr d cond s := by cases h <;> rfl

theorem IsBranch.length_eq : i.length = 2 := by cases h <;> rfl

theorem IsBranch.blind (p : Flags) (b : Bool) : cond { p with d := b } = cond p := by cases h <;> rfl

end

/-- What every instruction is made of: the shared operation it runs, its length (30_encoding.md R71), the bounds of its
cost (38_fetch_execute.md R95), and what its update does with the decimal flag (10_state.md R22). -/
inductive InstrShape : Instr → Prop
  | read {i : Instr} {m : Operand} {cost : Nat} {penalised : Bool} {f : Byte → State → State}
      (update : ValueUpdate f) (run : ∀ s, exec i s = readInstr m cost penalised f s)
      (len : i.length = operandLength m) (ticks : 2 ≤ cost ∧ cost + penalised.toNat ≤ 7) : InstrShape i
  | store {i : Instr} {m : Operand} {cost : Nat} (v : Byte → Byte → Byte → Byte)
      (run : ∀ s, exec i s = storeInstr m cost (fun t => v t.a t.x t.y) s)
      (len : i.length = operandLength m) (ticks : 2 ≤ cost ∧ cost ≤ 7) : InstrShape i
  | modify {i : Instr} (m : Operand) {cost : Nat} {f : Byte → Flags → Byte × Flags}
      (blind : FlagsBlind f)
      (run : ∀ s, exec i s = modifyInstr m cost f s) (acc : m ≠ .acc) (imm : ∀ d, m ≠ .imm d)
      (len : i.length = operandLength m) (ticks : 2 ≤ cost ∧ cost ≤ 7) : InstrShape i
  | registers {i : Instr} {cost : Nat} {f : State → State} (update : RegisterUpdate f)
      (blind : i ≠ .sed → i ≠ .cld → DecimalBlind f) (run : ∀ s, exec i s = impliedInstr cost f s)
      (len : i.length = 1) (ticks : 2 ≤ cost ∧ cost ≤ 7) : InstrShape i
  | push {i : Instr} {cost : Nat} (v : Byte → Flags → Byte)
      (blind : i ≠ .php → ∀ a p d, v a { p with d := d } = v a p)
      (run : ∀ s, exec i s = impliedInstr cost (fun t => push (v t.a t.p) t) s)
      (len : i.length = 1) (ticks : 2 ≤ cost ∧ cost ≤ 7) : InstrShape i
  | pull {i : Instr} {cost : Nat} {f : Byte → State → State} (update : ∀ v, RegisterUpdate (f v))
      (blind : i ≠ .plp → ∀ v, DecimalBlind (f v))
      (run : ∀ s, exec i s = impliedInstr cost (fun t => f (pop t).1 (pop t).2) s)
      (len : i.length = 1) (ticks : 2 ≤ cost ∧ cost ≤ 7) : InstrShape i
  | branch {i : Instr} {d : Byte} {cond : Flags → Bool} (h : IsBranch d i cond) : InstrShape i
  | jmpAbs (w : Word) : InstrShape (.jmpAbs w)
  | jmpInd (w : Word) : InstrShape (.jmpInd w)
  | jsr (w : Word) : InstrShape (.jsr w)
  | rts : InstrShape .rts
  | brk : InstrShape .brk
  | rti : InstrShape .rti

/-- A transfer, or a count of an index register. -/
theorem InstrShape.transfer {i : Instr} {f : Byte → State → State} (h : ValueUpdate f)
    (v : Byte → Byte → Byte → Byte → Byte)
    (run : ∀ s, exec i s = impliedInstr 2 (fun t => f (v t.a t.x t.y t.sp) t) s) (len : i.length = 1) : InstrShape i :=
  .registers (cost := 2) (f := fun t => f (v t.a t.x t.y t.sp) t)
    ⟨fun t r => (h.update _).onto t r, fun t => (h.update _).cfg t⟩ (fun _ _ d t => h.blind _ d t) run len (by decide)

/-- A flag instruction. -/
theorem InstrShape.flag {i : Instr} (g : Flags → Flags)
    (blind : i ≠ .sed → i ≠ .cld → ∀ p d, g { p with d := d } = { g p with d := d })
    (run : ∀ s, exec i s = impliedInstr 2 (fun t => t.setP (g t.p)) s) (len : i.length = 1) : InstrShape i :=
  .registers (cost := 2) (f := fun t => t.setP (g t.p)) ⟨fun _ _ => rfl, fun _ => rfl⟩
    (fun hs hc d t => congrArg t.setP (blind hs hc t.p d)) run len (by decide)

/-- A shift or rotate of `A`. -/
theorem InstrShape.modifyA {i : Instr} {f : Byte → Flags → Byte × Flags}
    (blind : FlagsBlind f)
    (run : ∀ s, exec i s = modifyInstr .acc 2 f s) (len : i.length = 1) : InstrShape i :=
  have h : ValueUpdate (aluA fun a _ => f a) := aluA_valueUpdate fun a _ => blind a
  .registers (h.update 0x00#8) (fun _ _ => h.blind 0x00#8) run len (by decide)

/-- The shape of every instruction, by its family. -/
theorem instrShape : (i : Instr) → InstrShape i
  | .ldaImm _ | .ldaZp _ | .ldaZpx _ | .ldaAbs _ | .ldaAbsx _ | .ldaAbsy _ | .ldaIndx _ | .ldaIndy _ =>
    .read loadA_valueUpdate (fun _ => rfl) rfl (by decide)
  | .ldxImm _ | .ldxZp _ | .ldxZpy _ | .ldxAbs _ | .ldxAbsy _ =>
    .read loadX_valueUpdate (fun _ => rfl) rfl (by decide)
  | .ldyImm _ | .ldyZp _ | .ldyZpx _ | .ldyAbs _ | .ldyAbsx _ =>
    .read loadY_valueUpdate (fun _ => rfl) rfl (by decide)
  | .adcImm _ | .adcZp _ | .adcZpx _ | .adcAbs _ | .adcAbsx _ | .adcAbsy _ | .adcIndx _ | .adcIndy _ =>
    .read (aluA_valueUpdate (f := adc) fun _ _ _ _ => rfl) (fun _ => rfl) rfl (by decide)
  | .sbcImm _ | .sbcZp _ | .sbcZpx _ | .sbcAbs _ | .sbcAbsx _ | .sbcAbsy _ | .sbcIndx _ | .sbcIndy _ =>
    .read (aluA_valueUpdate (f := sbc) fun _ _ _ _ => rfl) (fun _ => rfl) rfl (by decide)
  | .andImm _ | .andZp _ | .andZpx _ | .andAbs _ | .andAbsx _ | .andAbsy _ | .andIndx _ | .andIndy _ =>
    .read (logic_valueUpdate (· &&& ·)) (fun _ => rfl) rfl (by decide)
  | .oraImm _ | .oraZp _ | .oraZpx _ | .oraAbs _ | .oraAbsx _ | .oraAbsy _ | .oraIndx _ | .oraIndy _ =>
    .read (logic_valueUpdate (· ||| ·)) (fun _ => rfl) rfl (by decide)
  | .eorImm _ | .eorZp _ | .eorZpx _ | .eorAbs _ | .eorAbsx _ | .eorAbsy _ | .eorIndx _ | .eorIndy _ =>
    .read (logic_valueUpdate (· ^^^ ·)) (fun _ => rfl) rfl (by decide)
  | .cmpImm _ | .cmpZp _ | .cmpZpx _ | .cmpAbs _ | .cmpAbsx _ | .cmpAbsy _ | .cmpIndx _ | .cmpIndy _ =>
    .read (compare_valueUpdate fun a _ _ => a) (fun _ => rfl) rfl (by decide)
  | .cpxImm _ | .cpxZp _ | .cpxAbs _ => .read (compare_valueUpdate fun _ x _ => x) (fun _ => rfl) rfl (by decide)
  | .cpyImm _ | .cpyZp _ | .cpyAbs _ => .read (compare_valueUpdate fun _ _ y => y) (fun _ => rfl) rfl (by decide)
  | .bitZp _ | .bitAbs _ => .read bitTest_valueUpdate (fun _ => rfl) rfl (by decide)
  | .aac0B _ | .aac2B _ => .read (aluA_valueUpdate (f := aac) fun _ _ _ _ => rfl) (fun _ => rfl) rfl (by decide)
  | .arr _ => .read (aluA_valueUpdate (f := arr) fun _ _ _ _ => rfl) (fun _ => rfl) rfl (by decide)
  | .staZp _ | .staZpx _ | .staAbs _ | .staAbsx _ | .staAbsy _ | .staIndx _ | .staIndy _ =>
    .store (fun a _ _ => a) (fun _ => rfl) rfl (by decide)
  | .stxZp _ | .stxZpy _ | .stxAbs _ => .store (fun _ x _ => x) (fun _ => rfl) rfl (by decide)
  | .styZp _ | .styZpx _ | .styAbs _ => .store (fun _ _ y => y) (fun _ => rfl) rfl (by decide)
  | .aaxZp _ | .aaxZpy _ | .aaxAbs _ | .aaxIndx _ => .store (fun a x _ => a &&& x) (fun _ => rfl) rfl (by decide)
  | .aslZp d => .modify (.zp d) asl_blind (fun _ => rfl) nofun nofun rfl (by decide)
  | .aslZpx d => .modify (.zpx d) asl_blind (fun _ => rfl) nofun nofun rfl (by decide)
  | .aslAbs w => .modify (.abs w) asl_blind (fun _ => rfl) nofun nofun rfl (by decide)
  | .aslAbsx w => .modify (.absx w) asl_blind (fun _ => rfl) nofun nofun rfl (by decide)
  | .lsrZp d => .modify (.zp d) lsr_blind (fun _ => rfl) nofun nofun rfl (by decide)
  | .lsrZpx d => .modify (.zpx d) lsr_blind (fun _ => rfl) nofun nofun rfl (by decide)
  | .lsrAbs w => .modify (.abs w) lsr_blind (fun _ => rfl) nofun nofun rfl (by decide)
  | .lsrAbsx w => .modify (.absx w) lsr_blind (fun _ => rfl) nofun nofun rfl (by decide)
  | .rolZp d => .modify (.zp d) rol_blind (fun _ => rfl) nofun nofun rfl (by decide)
  | .rolZpx d => .modify (.zpx d) rol_blind (fun _ => rfl) nofun nofun rfl (by decide)
  | .rolAbs w => .modify (.abs w) rol_blind (fun _ => rfl) nofun nofun rfl (by decide)
  | .rolAbsx w => .modify (.absx w) rol_blind (fun _ => rfl) nofun nofun rfl (by decide)
  | .rorZp d => .modify (.zp d) ror_blind (fun _ => rfl) nofun nofun rfl (by decide)
  | .rorZpx d => .modify (.zpx d) ror_blind (fun _ => rfl) nofun nofun rfl (by decide)
  | .rorAbs w => .modify (.abs w) ror_blind (fun _ => rfl) nofun nofun rfl (by decide)
  | .rorAbsx w => .modify (.absx w) ror_blind (fun _ => rfl) nofun nofun rfl (by decide)
  | .incZp d => .modify (.zp d) inc_blind (fun _ => rfl) nofun nofun rfl (by decide)
  | .incZpx d => .modify (.zpx d) inc_blind (fun _ => rfl) nofun nofun rfl (by decide)
  | .incAbs w => .modify (.abs w) inc_blind (fun _ => rfl) nofun nofun rfl (by decide)
  | .incAbsx w => .modify (.absx w) inc_blind (fun _ => rfl) nofun nofun rfl (by decide)
  | .decZp d => .modify (.zp d) dec_blind (fun _ => rfl) nofun nofun rfl (by decide)
  | .decZpx d => .modify (.zpx d) dec_blind (fun _ => rfl) nofun nofun rfl (by decide)
  | .decAbs w => .modify (.abs w) dec_blind (fun _ => rfl) nofun nofun rfl (by decide)
  | .decAbsx w => .modify (.absx w) dec_blind (fun _ => rfl) nofun nofun rfl (by decide)
  | .aslAcc => .modifyA asl_blind (fun _ => rfl) rfl
  | .lsrAcc => .modifyA lsr_blind (fun _ => rfl) rfl
  | .rolAcc => .modifyA rol_blind (fun _ => rfl) rfl
  | .rorAcc => .modifyA ror_blind (fun _ => rfl) rfl
  | .tax => .transfer loadX_valueUpdate (fun a _ _ _ => a) (fun _ => rfl) rfl
  | .tay => .transfer loadY_valueUpdate (fun a _ _ _ => a) (fun _ => rfl) rfl
  | .txa => .transfer loadA_valueUpdate (fun _ x _ _ => x) (fun _ => rfl) rfl
  | .tya => .transfer loadA_valueUpdate (fun _ _ y _ => y) (fun _ => rfl) rfl
  | .tsx => .transfer loadX_valueUpdate (fun _ _ _ sp => sp) (fun _ => rfl) rfl
  | .txs => .transfer setSp_valueUpdate (fun _ x _ _ => x) (fun _ => rfl) rfl
  | .inx => .transfer loadX_valueUpdate (fun _ x _ _ => x + 0x01#8) (fun _ => rfl) rfl
  | .iny => .transfer loadY_valueUpdate (fun _ _ y _ => y + 0x01#8) (fun _ => rfl) rfl
  | .dex => .transfer loadX_valueUpdate (fun _ x _ _ => x - 0x01#8) (fun _ => rfl) rfl
  | .dey => .transfer loadY_valueUpdate (fun _ _ y _ => y - 0x01#8) (fun _ => rfl) rfl
  | .clc => .flag (fun p => { p with c := false }) (fun _ _ _ _ => rfl) (fun _ => rfl) rfl
  | .sec => .flag (fun p => { p with c := true }) (fun _ _ _ _ => rfl) (fun _ => rfl) rfl
  | .cli => .flag (fun p => { p with i := false }) (fun _ _ _ _ => rfl) (fun _ => rfl) rfl
  | .sei => .flag (fun p => { p with i := true }) (fun _ _ _ _ => rfl) (fun _ => rfl) rfl
  | .clv => .flag (fun p => { p with v := false }) (fun _ _ _ _ => rfl) (fun _ => rfl) rfl
  | .cld => .flag (fun p => { p with d := false }) (fun _ h => absurd rfl h) (fun _ => rfl) rfl
  | .sed => .flag (fun p => { p with d := true }) (fun h => absurd rfl h) (fun _ => rfl) rfl
  | .nop => .flag (fun p => p) (fun _ _ _ _ => rfl) (fun _ => rfl) rfl
  | .pha => .push (fun a _ => a) (fun _ _ _ _ => rfl) (fun _ => rfl) rfl (by decide)
  | .php => .push (fun _ p => pByte p true) (fun h => absurd rfl h) (fun _ => rfl) rfl (by decide)
  | .pla => .pull loadA_valueUpdate.update (fun _ => loadA_valueUpdate.blind) (fun _ => rfl) rfl (by decide)
  | .plp => .pull (f := fun v t => t.setP (flagsOfByte v)) (fun _ => ⟨fun _ _ => rfl, fun _ => rfl⟩)
    (fun h => absurd rfl h) (fun _ => rfl) rfl (by decide)
  | .bcc _ => .branch .bcc
  | .bcs _ => .branch .bcs
  | .beq _ => .branch .beq
  | .bne _ => .branch .bne
  | .bpl _ => .branch .bpl
  | .bmi _ => .branch .bmi
  | .bvc _ => .branch .bvc
  | .bvs _ => .branch .bvs
  | .jmpAbs w => .jmpAbs w
  | .jmpInd w => .jmpInd w
  | .jsr w => .jsr w
  | .rts => .rts
  | .brk => .brk
  | .rti => .rti

end Sys2Proof.Machine
end

section
/-! What an instruction and an interrupt entry do to the state: a chain of data reads, data writes and updates of the
CPU's own registers. What each of the three keeps, every instruction and entry keeps. -/

namespace Sys2Proof.Machine

/-- `t` is reached from `s` by data reads, data writes (20_memory.md R46, R47) and updates of `A`, `X`, `Y`, `SP`, `PC`,
`P` and `wait`. -/
inductive Accesses (s : State) : State → Prop
  | refl : Accesses s s
  | registers {t : State} (h : Accesses s t) (a x y sp : Byte) (pc : Word) (p : Flags) (wait : Nat) :
      Accesses s { t with a := a, x := x, y := y, sp := sp, pc := pc, p := p, wait := wait }
  | read {t : State} (h : Accesses s t) (w : Word) : Accesses s (memRead w t).2
  | write {t : State} (h : Accesses s t) (w : Word) (v : Byte) : Accesses s (memWrite w v t)

namespace Accesses
variable {s t : State}

theorem of_update (h : Accesses s t) {f : State → State} (hf : RegisterUpdate f) : Accesses s (f t) := by
  rw [hf.frame t]
  exact h.registers ..

theorem setPc (h : Accesses s t) (w : Word) : Accesses s (t.setPc w) := h.registers ..

theorem setP (h : Accesses s t) (p : Flags) : Accesses s (t.setP p) := h.registers ..

theorem setSp (h : Accesses s t) (v : Byte) : Accesses s (t.setSp v) := h.registers ..

theorem setWait (h : Accesses s t) (n : Nat) : Accesses s (t.setWait n) := h.registers ..

theorem advance (h : Accesses s t) (len : Nat) : Accesses s (advance len t) := h.setPc _

theorem push (h : Accesses s t) (v : Byte) : Accesses s (push v t) := (h.write _ v).setSp _

theorem pop (h : Accesses s t) : Accesses s (pop t).2 := (h.setSp _).read _

theorem push16 (h : Accesses s t) (w : Word) : Accesses s (push16 w t) := (h.push _).push _

theorem pop16 (h : Accesses s t) : Accesses s (pop16 t).2 := h.pop.pop

theorem readOperand (h : Accesses s t) (m : Operand) : Accesses s (readOperand m t).2 := by
  cases m with
  | acc => exact h
  | imm d => exact h
  | _ => exact h.read _

theorem jumpIndirect (h : Accesses s t) (w : Word) : Accesses s (jumpIndirect w t) := ((h.read _).read _).setPc _

theorem enterException (h : Accesses s t) (ret : Word) (b : Bool) (vector : Word) :
    Accesses s (enterException ret b vector t) :=
  (((((h.push16 _).push _).setP _).read _).read _).setPc _

theorem returnFromException (h : Accesses s t) : Accesses s (returnFromException t) := (h.pop.setP _).pop16.setPc _

/-- No access reaches the halt record, the NMI latch, the host's calls or the parameters. -/
theorem frame (h : Accesses s t) :
    t.halted = s.halted ∧ t.nmiPending = s.nmiPending ∧ t.host = s.host ∧ t.cfg = s.cfg := by
  induction h with
  | refl => exact ⟨rfl, rfl, rfl, rfl⟩
  | registers _ _ _ _ _ _ _ _ ih => exact ih
  | read _ w ih => rw [memRead_frame]; exact ih
  | write _ w v ih => exact ih

theorem halted_eq (h : Accesses s t) : t.halted = s.halted := h.frame.1

end Accesses

/-- Every instruction completes, and does no more than its accesses. -/
theorem exec_accesses (i : Instr) (s : State) : ∃ t, exec i s = .next t ∧ Accesses s t := by
  have start : ∀ len, Accesses s (advance len s) := Accesses.refl.advance
  cases instrShape i with
  | read update run => exact ⟨_, run s, (((start _).readOperand _).of_update (update.update _)).setWait _⟩
  | store v run => exact ⟨_, run s, ((start _).write _ _).setWait _⟩
  | modify m blind run acc imm =>
    refine ⟨_, (run s).trans (modifyInstr_eq acc imm _ _ s), ?_⟩
    have hr := Accesses.refl.read (resolve m s).1 (s := s)
    rw [memRead_frame] at hr
    exact ((hr.registers ..).write _ _).setWait _
  | registers update _ run => exact ⟨_, run s, ((start 1).of_update update).setWait _⟩
  | push v _ run => exact ⟨_, run s, ((start 1).push _).setWait _⟩
  | pull update _ run => exact ⟨_, run s, ((start 1).pop.of_update (update _)).setWait _⟩
  | branch h =>
    rw [h.exec_eq, branchInstr_eq]
    split
    · exact ⟨_, rfl, Accesses.refl.registers ..⟩
    · exact ⟨_, rfl, Accesses.refl.registers ..⟩
  | jmpAbs w => exact ⟨_, rfl, ((start 3).setPc w).setWait _⟩
  | jmpInd w => exact ⟨_, rfl, ((start 3).jumpIndirect w).setWait _⟩
  | jsr w => exact ⟨_, rfl, (((start 3).push16 _).setPc w).setWait _⟩
  | rts => exact ⟨_, rfl, ((start 1).pop16.setPc _).setWait _⟩
  | brk => exact ⟨_, rfl, (Accesses.refl.enterException _ _ _).setWait _⟩
  | rti => exact ⟨_, rfl, (start 1).returnFromException.setWait _⟩

theorem accesses_of_exec {i : Instr} {s t : State} (h : exec i s = .next t) : Accesses s t := by
  obtain ⟨u, hu, hacc⟩ := exec_accesses i s
  rw [h] at hu
  cases hu
  exact hacc

theorem nmiEntry_accesses (s : State) : Accesses (s.setNmi false) (nmiEntry s) :=
  (Accesses.refl.enterException _ _ _).setWait _

theorem irqEntry_accesses (s : State) : Accesses s (irqEntry s) := (Accesses.refl.enterException _ _ _).setWait _

/-- The Timing Unit's part of a tick leaves everything but `nmi_pending`, the counters, the parity and `status`. -/
theorem ppuPhase_frame (s : State) :
    ppuPhase s = { s with
      nmiPending := (ppuPhase s).nmiPending
      ppu := { s.ppu with
        cycle := (ppuPhase s).ppu.cycle
        scanline := (ppuPhase s).ppu.scanline
        odd := (ppuPhase s).ppu.odd
        status := (ppuPhase s).ppu.status } } := by
  unfold ppuPhase
  split
  · rfl
  · exact ppuTicks_frame _ s

section
variable (s : State)

@[simp] theorem ppuPhase_pc : (ppuPhase s).pc = s.pc := by rw [ppuPhase_frame]
@[simp] theorem ppuPhase_wait : (ppuPhase s).wait = s.wait := by rw [ppuPhase_frame]
@[simp] theorem ppuPhase_halted : (ppuPhase s).halted = s.halted := by rw [ppuPhase_frame]
@[simp] theorem ppuPhase_host : (ppuPhase s).host = s.host := by rw [ppuPhase_frame]
@[simp] theorem ppuPhase_cfg : (ppuPhase s).cfg = s.cfg := by rw [ppuPhase_frame]

@[simp] theorem State.afterCall_pc : s.afterCall.pc = s.pc := rfl
@[simp] theorem State.afterCall_p : s.afterCall.p = s.p := rfl
@[simp] theorem State.afterCall_wait : s.afterCall.wait = s.wait := rfl
@[simp] theorem State.afterCall_halted : s.afterCall.halted = s.halted := rfl
@[simp] theorem State.afterCall_nmiPending : s.afterCall.nmiPending = s.nmiPending := rfl
@[simp] theorem State.afterCall_cfg : s.afterCall.cfg = s.cfg := rfl
@[simp] theorem State.afterCall_host : s.afterCall.host = s.host.tail := rfl

end

/-- Everything a step can do, with the state it does it in: the two resets, a tick of a halted block, a waiting tick, the
two entries, the halt and an instruction (38_fetch_execute.md R90, R91; 70_reset_and_hazards.md R298). -/
inductive StepCase (s : State) : State → Prop
  | cpuReset (call : s.host.head? = some .cpuReset) (irq : s.nextIrq = none) : StepCase s (cpuReset s.afterCall)
  | ppuReset (call : s.host.head? = some .ppuReset) (irq : s.nextIrq = none) : StepCase s (ppuReset s.afterCall)
  | halted (tick : s.nextIrq ≠ none) (halt : s.halted ≠ none) : StepCase s s.afterCall
  | waiting (tick : s.nextIrq ≠ none) (running : s.halted = none) (wait : 0 < s.wait) :
      StepCase s (ppuPhase (s.afterCall.setWait (s.wait - 1)))
  | nmi (tick : s.nextIrq ≠ none) (running : s.halted = none) (wait : s.wait = 0) (pending : s.nmiPending = true) :
      StepCase s (ppuPhase (nmiEntry s.afterCall))
  | irq (line : s.nextIrq = some true) (running : s.halted = none) (wait : s.wait = 0)
      (pending : s.nmiPending = false) (unmasked : s.p.i = false) : StepCase s (ppuPhase (irqEntry s.afterCall))
  | unknown {e : Reject} (executes : s.executes)
      (undecoded : decode s.cfg.unofficial (fetchBytes s.afterCall) = .error e) :
      StepCase s (raiseUnknownOpcode (fetch s.pc s.afterCall) s.afterCall)
  | instr {i : Instr} {rest : List Byte} {t : State} (executes : s.executes)
      (decoded : decode s.cfg.unofficial (fetchBytes s.afterCall) = .ok (i, rest))
      (run : exec i s.afterCall = .next t) : StepCase s (ppuPhase t)

/-- A tick at a boundary that takes no interrupt executes (R90). -/
theorem stepCase_of_executeOne {s t : State} (hx : s.executes) (h : executeOne s.afterCall = .next t) :
    StepCase s (ppuPhase t) := by
  rcases executeOne_cases s.afterCall with ⟨i, rest, hd, he⟩ | ⟨e, hd, he⟩
  · exact .instr hx hd (he.symm.trans h)
  · cases h.symm.trans he
    exact .unknown hx hd

theorem stepCase_of_tick {s t : State} {irq : Bool} (hi : s.nextIrq = some irq)
    (h : systemTick irq s.afterCall = .next t) : StepCase s t := by
  have tick : s.nextIrq ≠ none := by rw [hi]; exact nofun
  rcases systemTick_cases irq s.afterCall with ⟨hh, e⟩ | ⟨hr, u, hc, e⟩ | ⟨-, r, -, e⟩
  · cases h.symm.trans e
    exact .halted tick (Option.isSome_iff_ne_none.mp hh)
  · cases h.symm.trans e
    rcases cpuTick_cases irq s.afterCall with
      ⟨hh, -⟩ | ⟨-, hw, e⟩ | ⟨-, hw, hn, e⟩ | ⟨-, hw, hn, rfl, hp, e⟩ | ⟨-, hw, hn, hp, e⟩
    · rw [hr] at hh
      cases hh
    · cases hc.symm.trans e
      exact .waiting tick hr hw
    · cases hc.symm.trans e
      exact .nmi tick hr hw hn
    · cases hc.symm.trans e
      exact .irq hi hr hw hn hp
    · have line : s.nextIrq = some false ∨ (s.nextIrq = some true ∧ s.p.i = true) := by
        rw [hi]
        cases irq
        · exact .inl rfl
        · exact .inr ⟨rfl, by simpa using hp⟩
      exact stepCase_of_executeOne ⟨hr, hw, hn, line⟩ (e.symm.trans hc)
  · cases h.symm.trans e

theorem step_next_cases {s t : State} (h : step s = .next t) : StepCase s t := by
  rcases step_cases s with ⟨irq, hi, e⟩ | ⟨rest, hi, hc, e⟩ | ⟨rest, hi, hc, e⟩
  · exact stepCase_of_tick hi (e.symm.trans h)
  · cases h.symm.trans e
    exact .cpuReset (by rw [hc]; rfl) hi
  · cases h.symm.trans e
    exact .ppuReset (by rw [hc]; rfl) hi

end Sys2Proof.Machine
end

section
/-! The parameters and the host's calls (10_state.md R27, R33). -/

namespace Sys2Proof.Machine

/-- Settles O17, by the cases of a step: no access and no Timing Unit tick reaches a parameter or a call. -/
theorem parametersNeverChange : Obligations.ParametersNeverChange := by
  intro s t h
  cases step_next_cases h with
  | cpuReset => rw [cpuReset_frame]; exact ⟨rfl, rfl⟩
  | ppuReset => exact ⟨rfl, rfl⟩
  | halted => exact ⟨rfl, rfl⟩
  | waiting => simp
  | nmi =>
    obtain ⟨-, -, hhost, hcfg⟩ := (nmiEntry_accesses s.afterCall).frame
    simp [hhost, hcfg]
  | irq =>
    obtain ⟨-, -, hhost, hcfg⟩ := (irqEntry_accesses s.afterCall).frame
    simp [hhost, hcfg]
  | unknown => exact ⟨rfl, rfl⟩
  | instr _ _ run =>
    obtain ⟨-, -, hhost, hcfg⟩ := (accesses_of_exec run).frame
    simp [hhost, hcfg]

end Sys2Proof.Machine
end

section
/-! Well-formed states (10_state.md R28, R30, R32). -/

namespace Sys2Proof.Machine

/-- A data read leaves video memory, and of `status` it can only clear bit 7 (R46, R246, R247). -/
theorem memRead_vram_status (a : Word) (s : State) :
    (memRead a s).2.ppu.vram = s.ppu.vram ∧
      ((memRead a s).2.ppu.status = s.ppu.status ∨ (memRead a s).2.ppu.status = s.ppu.status &&& 0x7F#8) := by
  unfold memRead windowRead
  split_ifs
  · exact ⟨rfl, .inr rfl⟩
  · show (dataRead s.ppu).2.vram = _ ∧ ((dataRead s.ppu).2.status = _ ∨ _)
    rw [dataRead_frame]
    exact ⟨rfl, .inl rfl⟩
  · exact ⟨rfl, .inl rfl⟩

/-- A window write changes at most the video cell under the pointer (R242). -/
theorem windowWrite_vram (m : Word) (v : Byte) (u : TimingUnit) :
    (windowWrite m v u).vram = u.vram ∨ (windowWrite m v u).vram = u.vram.write u.ptr.toNat v := by
  unfold windowWrite
  split_ifs
  · exact .inl rfl
  · exact .inl rfl
  · unfold addrWrite
    split_ifs
    · exact .inl rfl
    · exact .inl rfl
  · exact .inr rfl
  · exact .inl rfl

/-- A byte that only has the vblank bit (R30) stays one under the masks of the events and of a status read. -/
theorem vblankOnly_cases {v : Byte} (h : v = 0x00#8 ∨ v = 0x80#8) :
    v ||| 0x80#8 = 0x80#8 ∧ v &&& 0x1F#8 = 0x00#8 ∧ v &&& 0x7F#8 = 0x00#8 := by
  rcases h with rfl | rfl <;> decide

theorem memRead_wf {s : State} (h : s.wf) (a : Word) : (memRead a s).2.wf := by
  obtain ⟨hm, hmi, hv, hvi, hst⟩ := h
  obtain ⟨hvram, hstatus⟩ := memRead_vram_status a s
  have hmem : (memRead a s).2.mem = s.mem := by rw [memRead_frame]
  rw [State.wf, hmem, hvram]
  refine ⟨hm, hmi, hv, hvi, ?_⟩
  rcases hstatus with e | e <;> rw [e]
  · exact hst
  · obtain ⟨-, -, hread⟩ := vblankOnly_cases hst
    exact .inl hread

theorem memWrite_wf {s : State} (h : s.wf) (a : Word) (v : Byte) : (memWrite a v s).wf := by
  obtain ⟨hm, hmi, hv, hvi, hst⟩ := h
  have hstatus : (windowWrite (mirror a) v s.ppu).status = s.ppu.status := by rw [windowWrite_frame]
  refine ⟨Memory.write_wf hm _ _, Memory.write_within hmi (mirror_lt a) _, ?_⟩
  show (windowWrite (mirror a) v s.ppu).vram.wf ∧ (windowWrite (mirror a) v s.ppu).vram.within 0x4000 ∧
    ((windowWrite (mirror a) v s.ppu).status = _ ∨ (windowWrite (mirror a) v s.ppu).status = _)
  rw [hstatus]
  rcases windowWrite_vram (mirror a) v s.ppu with e | e <;> rw [e]
  · exact ⟨hv, hvi, hst⟩
  · exact ⟨Memory.write_wf hv _ _, Memory.write_within hvi s.ppu.ptr.isLt _, hst⟩

theorem Accesses.wf {s t : State} (h : Accesses s t) (hs : s.wf) : t.wf := by
  induction h with
  | refl => exact hs
  | registers _ _ _ _ _ _ _ _ ih => exact ih
  | read _ w ih => exact memRead_wf ih w
  | write _ w v ih => exact memWrite_wf ih w v

theorem ppuTick_wf (s : State) (h : s.wf) : (ppuTick s).wf := by
  obtain ⟨hm, hmi, hv, hvi, hst⟩ := h
  obtain ⟨hset, hclear, -⟩ := vblankOnly_cases hst
  rw [ppuTick_frame]
  refine ⟨hm, hmi, hv, hvi, ?_⟩
  rcases vblankEvent_cases s with ⟨-, -, e⟩ | ⟨-, -, e⟩ | ⟨-, e⟩ <;> rw [e]
  · exact .inr hset
  · exact .inl hclear
  · exact hst

theorem ppuPhase_wf {s : State} (h : s.wf) : (ppuPhase s).wf := by
  unfold ppuPhase
  split
  · exact h
  · exact ppuTicks_induction ppuTick_wf _ s h

theorem cpuReset_wf {s : State} (h : s.wf) : (cpuReset s).wf := by
  obtain ⟨hm, hmi, hppu⟩ := h
  rw [cpuReset_frame]
  exact ⟨zeroCells_induction (P := Memory.wf) (fun _ _ _ hw => Memory.write_wf hw _ _) _ s hm,
    zeroCells_induction (P := Memory.within 0x10000) (fun _ a _ hw => Memory.write_within hw (mirror_lt a) _) _ s hmi,
    hppu⟩

theorem ppuReset_wf {s : State} (h : s.wf) : (ppuReset s).wf := by
  obtain ⟨hm, hmi, hv, hvi, -⟩ := h
  exact ⟨hm, hmi, hv, hvi, .inl rfl⟩

/-- Settles O14, by the cases of a step: each data read, data write and Timing Unit tick keeps the form and the bounds,
so an instruction, an entry and a reset do. -/
theorem stepKeepsWellFormedStates : Obligations.StepKeepsWellFormedStates := by
  intro s t hs h
  have hs' : s.afterCall.wf := hs
  cases step_next_cases h with
  | cpuReset => exact cpuReset_wf hs'
  | ppuReset => exact ppuReset_wf hs'
  | halted => exact hs'
  | waiting => exact ppuPhase_wf hs'
  | nmi => exact ppuPhase_wf ((nmiEntry_accesses s.afterCall).wf hs')
  | irq => exact ppuPhase_wf ((irqEntry_accesses s.afterCall).wf hs')
  | unknown => exact hs'
  | instr _ _ run => exact ppuPhase_wf ((accesses_of_exec run).wf hs')

end Sys2Proof.Machine
end

section
/-! The wait counter (10_state.md R24, 38_fetch_execute.md R95). -/

namespace Sys2Proof.Machine

/-- An instruction leaves `wait` at its cost less one, and every cost lies between 2 and 7 if that of BRK does. -/
theorem exec_wait {i : Instr} {s t : State} (h : exec i s = .next t) (hint : 2 ≤ s.cfg.intCost ∧ s.cfg.intCost ≤ 7) :
    1 ≤ t.wait ∧ t.wait ≤ 6 := by
  have cost {c : Nat} {u : State} (hc : 2 ≤ c ∧ c ≤ 7) (e : exec i s = complete c u) : 1 ≤ t.wait ∧ t.wait ≤ 6 := by
    cases h.symm.trans e
    simp only [State.setWait_wait]
    omega
  cases instrShape i with
  | @read _ m _ penalised _ _ run _ ticks =>
    refine cost ?_ (run s)
    have hbonus : crossBonus m (advance (operandLength m) s) ≤ 1 := by
      unfold crossBonus
      split <;> omega
    cases penalised with
    | false => exact ticks
    | true =>
      simp only [Bool.toNat_true, if_true] at ticks ⊢
      omega
  | store v run _ ticks => exact cost ticks (run s)
  | modify m _ run _ _ _ ticks => exact cost ticks (run s)
  | registers _ _ run _ ticks => exact cost ticks (run s)
  | push v _ run _ ticks => exact cost ticks (run s)
  | pull _ _ run _ ticks => exact cost ticks (run s)
  | branch hb =>
    rw [hb.exec_eq, branchInstr_eq] at h
    split at h <;> cases h
    · show 1 ≤ (if _ then 3 else 2) ∧ (if _ then 3 else 2) ≤ 6
      split <;> decide
    · show 1 ≤ 1 ∧ 1 ≤ 6
      decide
  | jmpAbs w => exact cost (c := 3) (by decide) rfl
  | jmpInd w => exact cost (c := 5) (by decide) rfl
  | jsr w => exact cost (c := 6) (by decide) rfl
  | rts => exact cost (c := 6) (by decide) rfl
  | brk => exact cost hint rfl
  | rti => exact cost (c := 6) (by decide) rfl

theorem nmiEntry_wait (s : State) : (nmiEntry s).wait = s.cfg.intCost - 1 := rfl

theorem irqEntry_wait (s : State) : (irqEntry s).wait = s.cfg.intCost - 1 := rfl

/-- Settles O18, by the cases of a step: only a reset, an entry and an instruction set `wait`, and a boundary tick that
takes no interrupt is an instruction or halts. -/
theorem waitStaysWithinEight : Obligations.WaitStaysWithinEight := by
  intro s t hcfg hw h
  have hint : s.cfg.intCost = 7 := by rw [hcfg]; rfl
  have hreset : s.cfg.resetCost = 8 := by rw [hcfg]; rfl
  cases step_next_cases h with
  | cpuReset _ hirq =>
    exact ⟨hreset.le, fun ⟨_, _, _, hline⟩ => by simp [hirq] at hline⟩
  | ppuReset _ hirq =>
    exact ⟨hw, fun ⟨_, _, _, hline⟩ => by simp [hirq] at hline⟩
  | halted _ halt => exact ⟨hw, fun ⟨hrun, _⟩ => absurd hrun halt⟩
  | waiting _ _ wait =>
    simp only [ppuPhase_wait, State.setWait_wait]
    exact ⟨by omega, fun ⟨_, hzero, _⟩ => by omega⟩
  | nmi _ _ _ pending =>
    exact ⟨by simp [nmiEntry_wait, hint], fun ⟨_, _, hnone, _⟩ => by simp [pending] at hnone⟩
  | irq line _ _ _ unmasked =>
    exact ⟨by simp [irqEntry_wait, hint], fun ⟨_, _, _, hline⟩ => by simp [line, unmasked] at hline⟩
  | unknown => exact ⟨hw, fun _ hh => absurd hh nofun⟩
  | instr _ _ run =>
    obtain ⟨h1, h6⟩ := exec_wait run (by simp [hint])
    rw [ppuPhase_wait]
    exact ⟨by omega, fun _ _ => ⟨h1, h6⟩⟩

end Sys2Proof.Machine
end

section
/-! The program counter (10_state.md R15, 44_control_transfer.md R180, 60_exceptions.md R261). -/

namespace Sys2Proof.Machine

theorem RegisterUpdate.pc_eq {f : State → State} (h : RegisterUpdate f) (t : State) : (f t).pc = t.pc := by
  rw [h.frame t]

theorem readOperand_pc (m : Operand) (s : State) : (readOperand m s).2.pc = s.pc := by rw [readOperand_frame]

theorem pop_pc (s : State) : (pop s).2.pc = s.pc := by rw [pop_eq]

theorem operandLength_bounds (m : Operand) : 1 ≤ operandLength m ∧ operandLength m ≤ 3 := by
  cases m <;> simp [operandLength]

/-- An instruction that transfers no control advances `PC` by its length (R15). -/
theorem exec_pc_of_no_transfer (i : Instr) (s : State)
    (hbranch : ∀ d, i ≠ .bcc d ∧ i ≠ .bcs d ∧ i ≠ .beq d ∧ i ≠ .bne d ∧ i ≠ .bpl d ∧ i ≠ .bmi d ∧ i ≠ .bvc d ∧
      i ≠ .bvs d)
    (hjump : ∀ w, i ≠ .jmpAbs w ∧ i ≠ .jmpInd w ∧ i ≠ .jsr w) (hrts : i ≠ .rts) (hrti : i ≠ .rti) (hbrk : i ≠ .brk) :
    ∃ t, exec i s = .next t ∧ t.pc = s.pc + BitVec.ofNat 16 i.length ∧ 1 ≤ i.length ∧ i.length ≤ 3 := by
  cases instrShape i with
  | read update run len =>
    rw [len]
    exact ⟨_, run s, ((update.update _).pc_eq _).trans (readOperand_pc _ _), operandLength_bounds _⟩
  | store v run len =>
    rw [len]
    exact ⟨_, run s, rfl, operandLength_bounds _⟩
  | modify m _ run acc imm len =>
    rw [len]
    exact ⟨_, (run s).trans (modifyInstr_eq acc imm _ _ s), rfl, operandLength_bounds _⟩
  | registers update _ run len =>
    rw [len]
    exact ⟨_, run s, update.pc_eq _, by decide⟩
  | push v _ run len =>
    rw [len]
    exact ⟨_, run s, rfl, by decide⟩
  | pull update _ run len =>
    rw [len]
    exact ⟨_, run s, ((update _).pc_eq _).trans (pop_pc _), by decide⟩
  | @branch _ d _ h =>
    have hno := hbranch d
    cases h <;> simp at hno
  | jmpAbs w => exact absurd rfl (hjump w).1
  | jmpInd w => exact absurd rfl (hjump w).2.1
  | jsr w => exact absurd rfl (hjump w).2.2
  | rts => exact absurd rfl hrts
  | brk => exact absurd rfl hbrk
  | rti => exact absurd rfl hrti

/-- Where a branch leaves `PC` (R180). -/
theorem IsBranch.exec_pc {d : Byte} {i : Instr} {cond : Flags → Bool} (h : IsBranch d i cond) (s : State) :
    ∃ t, exec i s = .next t ∧ i.length = 2 ∧ (cond s.p = false → t.pc = s.pc + 2#16) ∧
      (cond s.p = true → t.pc = s.pc + 2#16 + d.signExtend 16) := by
  rw [h.exec_eq, branchInstr_eq]
  cases hc : cond s.p
  · exact ⟨_, rfl, h.length_eq, fun _ => rfl, nofun⟩
  · exact ⟨_, rfl, h.length_eq, nofun, fun _ => rfl⟩

/-- Only an undefined opcode halts the block, and it leaves `PC` one on (R261). -/
theorem step_pc_of_halt {s t : State} (h : step s = .next t) (hne : t.halted ≠ s.halted) (hhalt : t.halted ≠ none) :
    t.pc = s.pc + 1#16 := by
  cases step_next_cases h with
  | cpuReset => exact absurd rfl hhalt
  | ppuReset => exact absurd rfl hne
  | halted => exact absurd rfl hne
  | waiting => exact absurd (ppuPhase_halted _) hne
  | nmi => exact absurd ((ppuPhase_halted _).trans (nmiEntry_accesses s.afterCall).halted_eq) hne
  | irq => exact absurd ((ppuPhase_halted _).trans (irqEntry_accesses s.afterCall).halted_eq) hne
  | unknown => rfl
  | instr _ _ run => exact absurd ((ppuPhase_halted _).trans (accesses_of_exec run).halted_eq) hne

/-- A step that is no boundary tick and no CPU reset leaves `PC` alone. -/
theorem step_pc_of_no_boundary {s t : State} (h : step s = .next t) (hreset : s.host.head? ≠ some .cpuReset)
    (hno : s.halted ≠ none ∨ 0 < s.wait ∨ s.nextIrq = none) : t.pc = s.pc := by
  have boundary (hr : s.halted = none) (hw : s.wait = 0) (hi : s.nextIrq ≠ none) : t.pc = s.pc := by
    simp [hr, hw, hi] at hno
  cases step_next_cases h with
  | cpuReset call => exact absurd call hreset
  | ppuReset => rfl
  | halted => rfl
  | waiting => exact ppuPhase_pc _
  | nmi tick running wait => exact boundary running wait tick
  | irq line running wait => exact boundary running wait (by simp [line])
  | unknown executes =>
    obtain ⟨running, wait, -, line⟩ := executes
    exact boundary running wait fun hi => by simp [hi] at line
  | instr executes =>
    obtain ⟨running, wait, -, line⟩ := executes
    exact boundary running wait fun hi => by simp [hi] at line

/-- Settles O26, clause by clause: instructions by their shape, branches by their table, steps by their cases. -/
theorem pcAdvancesByTheLength : Obligations.PcAdvancesByTheLength := by
  refine ⟨exec_pc_of_no_transfer, ?_, fun s t => step_pc_of_halt, fun s t => step_pc_of_no_boundary⟩
  intro d s i taken hmem
  simp only [List.mem_cons, Prod.mk.injEq, List.not_mem_nil, or_false] at hmem
  rcases hmem with ⟨rfl, rfl⟩ | ⟨rfl, rfl⟩ | ⟨rfl, rfl⟩ | ⟨rfl, rfl⟩ | ⟨rfl, rfl⟩ | ⟨rfl, rfl⟩ | ⟨rfl, rfl⟩ | ⟨rfl, rfl⟩
  exacts [IsBranch.bcc.exec_pc s, IsBranch.bcs.exec_pc s, IsBranch.bne.exec_pc s, IsBranch.beq.exec_pc s,
    IsBranch.bpl.exec_pc s, IsBranch.bmi.exec_pc s, IsBranch.bvc.exec_pc s, IsBranch.bvs.exec_pc s]

end Sys2Proof.Machine
end

section
/-! The decimal flag (10_state.md R22): every operation but the status copy, the status load and SED and CLD commutes
with a change of it. -/

namespace Sys2Proof.Machine

open Sys2Proof.Claims (withD)

theorem withD_p (d : Bool) (s : State) : (withD d s).p = { s.p with d := d } := rfl

theorem advance_withD (len : Nat) (d : Bool) (s : State) : advance len (withD d s) = withD d (advance len s) := rfl

theorem memRead_withD (w : Word) (d : Bool) (s : State) :
    memRead w (withD d s) = ((memRead w s).1, withD d (memRead w s).2) := by
  unfold memRead
  rw [show (withD d s).ppu = s.ppu from rfl]
  split <;> rfl

theorem memWrite_withD (w : Word) (v : Byte) (d : Bool) (s : State) :
    memWrite w v (withD d s) = withD d (memWrite w v s) := rfl

theorem push_withD (v : Byte) (d : Bool) (s : State) : push v (withD d s) = withD d (push v s) := rfl

theorem pop_withD (d : Bool) (s : State) : pop (withD d s) = ((pop s).1, withD d (pop s).2) := by
  rw [pop_eq, pop_eq]
  rfl

theorem push16_withD (w : Word) (d : Bool) (s : State) : push16 w (withD d s) = withD d (push16 w s) := rfl

theorem pop16_withD (d : Bool) (s : State) : pop16 (withD d s) = ((pop16 s).1, withD d (pop16 s).2) := by
  simp only [pop16, pop_withD]

theorem resolve_withD (m : Operand) (d : Bool) (s : State) : resolve m (withD d s) = resolve m s := by
  have hz (q : Byte) : zeroPagePointer q (withD d s) = zeroPagePointer q s := by
    simp only [zeroPagePointer, memRead_withD]
  cases m <;> simp only [resolve, hz] <;> rfl

theorem readOperand_withD (m : Operand) (d : Bool) (s : State) :
    readOperand m (withD d s) = ((readOperand m s).1, withD d (readOperand m s).2) := by
  cases m with
  | acc => rfl
  | imm _ => rfl
  | _ => simp only [readOperand, resolve_withD, memRead_withD]

theorem crossBonus_withD (m : Operand) (d : Bool) (s : State) : crossBonus m (withD d s) = crossBonus m s := by
  rw [crossBonus, resolve_withD, crossBonus]

theorem jumpIndirect_withD (w : Word) (d : Bool) (s : State) :
    jumpIndirect w (withD d s) = withD d (jumpIndirect w s) := by
  simp only [jumpIndirect, memRead_withD]
  rfl

/-- An implied instruction whose update commutes with a change of D does so too. -/
theorem impliedInstr_withD {f : State → State} {d : Bool} (cost : Nat) (s : State)
    (h : f (withD d (advance 1 s)) = withD d (f (advance 1 s))) :
    impliedInstr cost f (withD d s) = .next (withD d ((f (advance 1 s)).setWait (cost - 1))) := by
  rw [impliedInstr, advance_withD, h]
  rfl

/-- Changing D before an instruction that neither copies, loads nor writes it changes D after it and nothing else. -/
theorem exec_withD (i : Instr) (s : State) (d : Bool) (hsed : i ≠ .sed) (hcld : i ≠ .cld) (hplp : i ≠ .plp)
    (hrti : i ≠ .rti) (hphp : i ≠ .php) (hbrk : i ≠ .brk) :
    ∃ t, exec i s = .next t ∧ exec i (withD d s) = .next (withD d t) := by
  cases instrShape i with
  | read update run =>
    refine ⟨_, run s, (run _).trans ?_⟩
    simp only [readInstr, complete, advance_withD, readOperand_withD, crossBonus_withD, update.blind _ d _]
    rfl
  | store v run =>
    refine ⟨_, run s, (run _).trans ?_⟩
    simp only [storeInstr, complete, advance_withD, resolve_withD]
    rfl
  | modify m blind run acc imm =>
    refine ⟨_, (run s).trans (modifyInstr_eq acc imm _ _ s), (run _).trans ?_⟩
    rw [modifyInstr_eq acc imm, resolve_withD, memRead_withD, withD_p, blind]
    rfl
  | registers _ blind run => exact ⟨_, run s, (run _).trans (impliedInstr_withD _ s (blind hsed hcld d _))⟩
  | push v blind run =>
    refine ⟨_, run s, (run _).trans (impliedInstr_withD _ s ?_)⟩
    rw [push_withD, withD_p, blind hphp]
    rfl
  | pull _ blind run =>
    refine ⟨_, run s, (run _).trans (impliedInstr_withD _ s ?_)⟩
    rw [pop_withD]
    exact blind hplp _ d _
  | branch h =>
    have hcond := h.blind s.p d
    rw [h.exec_eq, h.exec_eq, branchInstr_eq, branchInstr_eq, withD_p, hcond]
    split
    · exact ⟨_, rfl, rfl⟩
    · exact ⟨_, rfl, rfl⟩
  | jmpAbs w => exact ⟨_, rfl, rfl⟩
  | jmpInd w => exact ⟨_, rfl, congrArg (complete 5) (jumpIndirect_withD w d (advance 3 s))⟩
  | jsr w => exact ⟨_, rfl, rfl⟩
  | rts =>
    refine ⟨_, rfl, impliedInstr_withD (f := fun t => (pop16 t).2.setPc ((pop16 t).1 + 1#16)) 6 s ?_⟩
    rw [pop16_withD]
    rfl
  | brk => exact absurd rfl hbrk
  | rti => exact absurd rfl hrti

/-- PLP and RTI load the flags from the byte they pull. -/
theorem exec_plp_p {s t : State} (h : exec .plp s = .next t) :
    t.p = flagsOfByte (rawRead (stackAddr (s.sp + 0x01#8)) s) := by
  cases h
  show flagsOfByte (pop (advance 1 s)).1 = _
  rw [pop_eq]
  rfl

theorem exec_rti_p {s t : State} (h : exec .rti s = .next t) :
    t.p = flagsOfByte (rawRead (stackAddr (s.sp + 0x01#8)) s) := by
  cases h
  show (returnFromException (advance 1 s)).p = _
  rw [returnFromException_eq]
  rfl

/-- Settles O23: the loads and the status copy by their bits, the last clause by the shape of the instruction. -/
theorem decimalFlagHasNoEffect : Obligations.DecimalFlagHasNoEffect := by
  refine ⟨?_, ?_, ?_, ?_, fun p b => congrArg Flags.d (flagsOfByte_pByte p b), ?_⟩
  · intro s t h
    cases h
    rfl
  · intro s t h
    cases h
    rfl
  · intro s t h
    exact congrArg Flags.d (exec_plp_p h)
  · intro s t h
    exact congrArg Flags.d (exec_rti_p h)
  · intro i s t d hsed hcld hplp hrti hphp hbrk h
    obtain ⟨u, hu, hd⟩ := exec_withD i s d hsed hcld hplp hrti hphp hbrk
    cases h.symm.trans hu
    exact hd

end Sys2Proof.Machine
end

section
/-! The array cells (20_memory.md R41 to R45, R48): the mapping, the raw access and what a step writes. -/

namespace Sys2Proof.Machine

/-- What one write to a mapped cell keeps of the array, every chain of accesses keeps. -/
theorem Accesses.mem_induction {P : Memory → Prop}
    (write : ∀ m (a : Word) v, P m → P (Memory.write m (mirror a).toNat v))
    {s t : State} (h : Accesses s t) (hs : P s.mem) : P t.mem := by
  induction h with
  | refl => exact hs
  | registers _ _ _ _ _ _ _ _ ih => exact ih
  | read _ w ih => rw [memRead_frame]; exact ih
  | write _ w v ih => exact write _ w v ih

@[simp] theorem ppuPhase_mem (s : State) : (ppuPhase s).mem = s.mem := by rw [ppuPhase_frame]

/-- What one write to a mapped cell keeps of the array, every step keeps: instruction, entry and reset reach the array
by such writes alone. -/
theorem step_mem_induction {P : Memory → Prop}
    (write : ∀ m (a : Word) v, P m → P (Memory.write m (mirror a).toNat v))
    {s t : State} (h : step s = .next t) (hs : P s.mem) : P t.mem := by
  cases step_next_cases h with
  | cpuReset => rw [cpuReset_frame]; exact zeroCells_induction write _ s.afterCall hs
  | ppuReset => exact hs
  | halted => exact hs
  | waiting => rw [ppuPhase_mem]; exact hs
  | nmi => rw [ppuPhase_mem]; exact (nmiEntry_accesses s.afterCall).mem_induction write hs
  | irq => rw [ppuPhase_mem]; exact (irqEntry_accesses s.afterCall).mem_induction write hs
  | unknown => exact hs
  | instr _ _ run => rw [ppuPhase_mem]; exact (accesses_of_exec run).mem_induction write hs

/-- Settles O16: a step writes mapped cells only, and the mapping never answers one of these. -/
theorem mirrorCellsAreNeverWritten : Obligations.MirrorCellsAreNeverWritten := by
  intro s t h k hk
  refine step_mem_induction (P := fun m => m.read k = s.mem.read k) (fun m a v hm => ?_) h rfl
  exact (Memory.read_write_other m v (mirror_image a k hk)).trans hm

/-- `map` is idempotent: its image is what it passes through. -/
@[simp] theorem mirror_mirror (a : Word) : mirror (mirror a) = mirror a := by
  apply BitVec.eq_of_toNat_eq
  rw [mirror_toNat (mirror a), mirror_toNat a]
  split_ifs <;> omega

/-- Settles O27, from the mapping as arithmetic. -/
theorem mappingFoldsTheMirrors : Obligations.MappingFoldsTheMirrors := by
  intro a
  have image := mirror_image a (mirror a).toNat
  refine ⟨fun h => ?_, fun h => ?_, fun h => BitVec.eq_of_toNat_eq ?_, mirror_mirror a, by omega⟩
  · rw [mirror_toNat, if_pos h]
  · rw [mirror_toNat, if_neg (by omega), if_pos h]
  · rw [mirror_toNat, if_neg (by omega), if_neg (by omega)]

/-- Settles O28, from the laws of a canonical memory. -/
theorem rawAccessReadsAndWritesOneCell : Obligations.RawAccessReadsAndWritesOneCell :=
  fun a v s hs => ⟨rawRead_eq a s, Memory.write_wf hs _ v, fun _ h => rawRead_rawWrite_same hs h v,
    fun _ h => rawRead_rawWrite_other s h v, rawWrite_eq a v s⟩

/-- Settles O31: a fetch is a raw read, and a 16-bit read is two data reads. -/
theorem fetchAndSixteenBitRead : Obligations.FetchAndSixteenBitRead := by
  intro a s u
  have next : BitVec.ofNat 16 (a.toNat + 1) = a + 1#16 := by
    rw [BitVec.ofNat_add, BitVec.ofNat_toNat, BitVec.setWidth_eq]
  rw [next]
  exact ⟨rawRead_eq a s, rfl, word_toNat _ _, rfl⟩

end Sys2Proof.Machine
end

section
/-! The register window (20_memory.md R46, R47; 50_timing_unit.md R239 to R247): each data read and write of a mapped
window address, with the bit fields of the video pointer as arithmetic. -/

namespace Sys2Proof.Machine

/-! ## The video pointer -/

/-- The next pointer (R243), as arithmetic. -/
theorem ptr_add_ptrInc (u : TimingUnit) :
    u.ptr + ptrInc u = BitVec.ofNat 14 (u.ptr.toNat + if u.ctrl.getLsbD 2 then 32 else 1) := by
  rw [BitVec.ofNat_add, BitVec.ofNat_toNat, BitVec.setWidth_eq, ptrInc]
  split <;> rfl

/-- The cell under a palette address (R247) lies `0x1000` below it: the mask clears bit 12, which is set there. -/
theorem and_2FFF_of_palette {ptr : VAddr} (h : 0x3F00 ≤ ptr.toNat) :
    (ptr &&& 0x2FFF#14).toNat = ptr.toNat - 0x1000 := by
  have hlt := ptr.isLt
  have low : (ptr.toNat &&& 0x2FFF) % 2 ^ 12 = ptr.toNat % 2 ^ 12 := by
    rw [Nat.and_mod_two_pow]
    exact (Nat.and_two_pow_sub_one_eq_mod _ 12).trans (Nat.mod_mod _ _)
  have high : (ptr.toNat &&& 0x2FFF) / 2 ^ 12 = 2 := by
    rw [Nat.and_div_two_pow, show ptr.toNat / 2 ^ 12 = 3 by omega]
    rfl
  rw [BitVec.toNat_and]
  show ptr.toNat &&& 0x2FFF = _
  omega

/-- The high six bits of a pointer. -/
theorem and_3F00_toNat (ptr : VAddr) : (ptr &&& 0x3F00#14).toNat = ptr.toNat / 0x100 * 0x100 := by
  have hlt := ptr.isLt
  have low : (ptr.toNat &&& 0x3F00) % 2 ^ 8 = 0 := by rw [Nat.and_mod_two_pow, Nat.and_zero]
  have high : (ptr.toNat &&& 0x3F00) / 2 ^ 8 = ptr.toNat / 2 ^ 8 := by
    rw [Nat.and_div_two_pow]
    exact (Nat.and_two_pow_sub_one_eq_mod _ 6).trans (Nat.mod_eq_of_lt (by omega))
  rw [BitVec.toNat_and]
  show ptr.toNat &&& 0x3F00 = _
  omega

/-- A pointer put together from a multiple of `0x100` and a byte. -/
theorem or_byte_eq_ofNat {hi lo : VAddr} {q r : Nat} (hhi : hi.toNat = q * 0x100) (hlo : lo.toNat = r)
    (hr : r < 0x100) : hi ||| lo = BitVec.ofNat 14 (q * 0x100 + r) := by
  have sum : q * 0x100 ||| r = q * 0x100 + r := by
    rw [Nat.mul_comm q]
    exact (Nat.two_pow_add_eq_or_of_lt (i := 8) hr q).symm
  rw [← sum, ← hhi, ← hlo, ← BitVec.toNat_or, BitVec.ofNat_toNat, BitVec.setWidth_eq]

/-- The first write to `0x2006` (R241): the high six bits of the pointer. -/
theorem addrWrite_high (v : Byte) {u : TimingUnit} (hw : u.w = false) :
    addrWrite v u = { u with
      w := true
      ptr := BitVec.ofNat 14 ((v.toNat % 0x40) * 0x100 + u.ptr.toNat % 0x100) } := by
  have hhi : ((v &&& 0x3F#8).setWidth 14 <<< 8).toNat = v.toNat % 0x40 * 0x100 := by
    have mask : v.toNat &&& 0x3F = v.toNat % 0x40 := Nat.and_two_pow_sub_one_eq_mod _ 6
    rw [BitVec.toNat_shiftLeft, BitVec.toNat_setWidth, BitVec.toNat_and, Nat.shiftLeft_eq]
    show (v.toNat &&& 0x3F) % 2 ^ 14 * 2 ^ 8 % 2 ^ 14 = _
    omega
  have hlo : (u.ptr &&& 0x00FF#14).toNat = u.ptr.toNat % 0x100 := by
    rw [BitVec.toNat_and]
    exact Nat.and_two_pow_sub_one_eq_mod _ 8
  rw [addrWrite, hw, or_byte_eq_ofNat hhi hlo (by omega)]
  rfl

/-- The second write to `0x2006` (R241): the low byte of the pointer. -/
theorem addrWrite_low (v : Byte) {u : TimingUnit} (hw : u.w = true) :
    addrWrite v u = { u with w := false, ptr := BitVec.ofNat 14 (u.ptr.toNat / 0x100 * 0x100 + v.toNat) } := by
  have hlo : (v.setWidth 14).toNat = v.toNat := BitVec.toNat_setWidth_of_le (by decide)
  rw [addrWrite, if_pos hw, or_byte_eq_ofNat (and_3F00_toNat _) hlo v.isLt]

/-! ## Data reads -/

/-- A read that maps to `0x2002` (R46, R246). -/
theorem memRead_status {a : Word} (h : mirror a = 0x2002#16) (s : State) :
    memRead a s = ((statusRead s.ppu).1, s.setPpu (statusRead s.ppu).2) := by
  rw [memRead, h]
  rfl

/-- A read that maps to `0x2007` (R46, R247). -/
theorem memRead_data {a : Word} (h : mirror a = 0x2007#16) (s : State) :
    memRead a s = ((dataRead s.ppu).1, s.setPpu (dataRead s.ppu).2) := by
  rw [memRead, h]
  rfl

/-- Settles O29, by the two intercepted addresses and the fall-through. -/
theorem dataReadThroughTheBridge : Obligations.DataReadThroughTheBridge := by
  intro a s
  refine ⟨fun h => memRead_status h s, fun h hp => ?_, fun h hp => ?_, fun hstatus hdata => ?_⟩
  · have palette : 0x3F00#14 ≤ s.ppu.ptr := hp
    rw [memRead_data h, dataRead, if_pos palette, and_2FFF_of_palette hp, ptr_add_ptrInc]
    rfl
  · have below : ¬0x3F00#14 ≤ s.ppu.ptr := Nat.not_le.mpr hp
    rw [memRead_data h, dataRead, if_neg below, ptr_add_ptrInc]
    rfl
  · exact memRead_plain (by rw [windowRead, if_neg hstatus, if_neg hdata])

/-! ## Data writes -/

/-- Settles O30: the array cell by the laws of memory, the Timing Unit effect by the mapped address. -/
theorem dataWriteThroughTheBridge : Obligations.DataWriteThroughTheBridge := by
  intro a v s hs
  obtain ⟨hmem, -, hvram, -, -⟩ := hs
  have effect : (memWrite a v s).ppu = windowWrite (mirror a) v s.ppu := rfl
  refine ⟨⟨rawRead_memWrite_same hmem a v, fun b h => rawRead_memWrite_other s h v⟩, memWrite_eq a v s, ?_⟩
  rw [effect]
  refine ⟨fun h => by rw [h]; rfl, fun h => by rw [h]; rfl, fun h hw => by rw [h]; exact addrWrite_high v hw,
    fun h hw => by rw [h]; exact addrWrite_low v hw, fun h => ?_, fun h0 h1 h6 h7 => ?_⟩
  · have data : windowWrite (mirror a) v s.ppu = dataWrite v s.ppu := by rw [h]; rfl
    rw [data, dataWrite, ptr_add_ptrInc]
    exact ⟨rfl, Memory.read_write_same hvram _ v, fun k hk => Memory.read_write_other _ v hk⟩
  · rw [windowWrite, if_neg h0, if_neg h1, if_neg h6, if_neg h7]

end Sys2Proof.Machine
end

section
/-! Who writes what (20_memory.md R62, 50_timing_unit.md R253, 60_exceptions.md R285): the Scheduler, the Timing Unit
and the host, each by its own frame. -/

namespace Sys2Proof.Machine

/-! ## The Scheduler -/

/-- A data read leaves the counters and the parity (R46). -/
theorem memRead_counters (a : Word) (s : State) :
    (memRead a s).2.ppu.cycle = s.ppu.cycle ∧ (memRead a s).2.ppu.scanline = s.ppu.scanline ∧
      (memRead a s).2.ppu.odd = s.ppu.odd := by
  unfold memRead windowRead
  split_ifs
  · exact ⟨rfl, rfl, rfl⟩
  · show (dataRead s.ppu).2.cycle = _ ∧ (dataRead s.ppu).2.scanline = _ ∧ (dataRead s.ppu).2.odd = _
    rw [dataRead_frame]
    exact ⟨rfl, rfl, rfl⟩
  · exact ⟨rfl, rfl, rfl⟩

/-- No access moves the counters or the parity, and of `status` it can only clear bit 7. -/
theorem Accesses.timing {s t : State} (h : Accesses s t) :
    t.ppu.cycle = s.ppu.cycle ∧ t.ppu.scanline = s.ppu.scanline ∧ t.ppu.odd = s.ppu.odd ∧
      (t.ppu.status = s.ppu.status ∨ t.ppu.status = s.ppu.status &&& 0x7F#8) := by
  induction h with
  | refl => exact ⟨rfl, rfl, rfl, .inl rfl⟩
  | registers _ _ _ _ _ _ _ _ ih => exact ih
  | @read t _ w ih =>
    obtain ⟨hc, hl, ho, hst⟩ := ih
    obtain ⟨rc, rl, ro⟩ := memRead_counters w t
    refine ⟨rc.trans hc, rl.trans hl, ro.trans ho, ?_⟩
    obtain ⟨-, e | e⟩ := memRead_vram_status w t <;> rw [e]
    · exact hst
    · rcases hst with e' | e' <;> rw [e']
      · exact .inr rfl
      · exact .inr (by rw [BitVec.and_assoc, BitVec.and_self])
  | @write t _ w v ih =>
    have frame := windowWrite_frame (mirror w) v t.ppu
    rw [memWrite_eq, frame]
    exact ih

/-- Settles O25: an instruction does no more than its accesses. -/
theorem instructionsLeaveTheCountersAlone : Obligations.InstructionsLeaveTheCountersAlone := by
  intro i s
  obtain ⟨t, ht, h⟩ := exec_accesses i s
  obtain ⟨hhalted, hnmi, hhost, hcfg⟩ := h.frame
  obtain ⟨hc, hl, ho, hst⟩ := h.timing
  exact ⟨t, ht, hc, hl, ho, hnmi, hhalted, hcfg, hhost, hst⟩

/-- A Scheduler tick (38_fetch_execute.md R90) may clear `nmi_pending`, makes accesses, and may set the halt record. -/
theorem cpuTick_accesses (irq : Bool) (s : State) :
    ∃ pending t halt, (pending = s.nmiPending ∨ pending = false) ∧ Accesses (s.setNmi pending) t ∧
      cpuTick irq s = .next (t.setHalted halt) := by
  rcases cpuTick_cases irq s with
    ⟨-, e⟩ | ⟨-, -, e⟩ | ⟨-, -, -, e⟩ | ⟨-, -, -, -, -, e⟩ | ⟨-, -, -, -, e⟩
  · exact ⟨_, s, _, .inl rfl, .refl, e⟩
  · exact ⟨_, s.setWait (s.wait - 1), _, .inl rfl, Accesses.refl.setWait _, e⟩
  · exact ⟨_, _, _, .inr rfl, nmiEntry_accesses s, e⟩
  · exact ⟨_, _, _, .inl rfl, irqEntry_accesses s, e⟩
  · rcases executeOne_cases s with ⟨i, rest, -, e'⟩ | ⟨_, -, e'⟩
    · obtain ⟨t, ht, h⟩ := exec_accesses i s
      exact ⟨_, t, _, .inl rfl, h, e.trans (e'.trans ht)⟩
    · exact ⟨_, s.setPc (s.pc + 1#16), _, .inl rfl, Accesses.refl.setPc _, e.trans e'⟩

/-- What a Scheduler tick can write of the Timing Unit, the latch, the calls and the parameters. -/
theorem cpuTick_frame (irq : Bool) (s : State) : ∃ t, cpuTick irq s = .next t ∧
    (t.nmiPending = s.nmiPending ∨ t.nmiPending = false) ∧
    (t.ppu.status = s.ppu.status ∨ t.ppu.status = s.ppu.status &&& 0x7F#8) ∧
    t = { t with
      cfg := s.cfg, host := s.host
      ppu := { t.ppu with cycle := s.ppu.cycle, scanline := s.ppu.scanline, odd := s.ppu.odd } } := by
  obtain ⟨pending, t, halt, hpending, h, e⟩ := cpuTick_accesses irq s
  obtain ⟨-, hnmi, hhost, hcfg⟩ := h.frame
  obtain ⟨hc, hl, ho, hst⟩ := h.timing
  simp only [State.setNmi_nmiPending, State.setNmi_host, State.setNmi_cfg, State.setNmi_ppu]
    at hnmi hhost hcfg hc hl ho hst
  refine ⟨_, e, ?_, hst, ?_⟩
  · rw [State.setHalted_nmiPending, hnmi]
    exact hpending
  · rw [← hcfg, ← hhost, ← hc, ← hl, ← ho]
    rfl

/-! ## The Timing Unit -/

/-- `u` with other contents in the window registers that no tick reads. -/
def TimingUnit.withWindow (u : TimingUnit) (mask : Byte) (w : Bool) (ptr : VAddr) (buf : Byte) (vram : Memory) :
    TimingUnit :=
  { u with mask := mask, w := w, ptr := ptr, buf := buf, vram := vram }

section
variable (mask : Byte) (w : Bool) (ptr : VAddr) (buf : Byte) (vram : Memory)

theorem advanceCounters_withWindow (u : TimingUnit) :
    advanceCounters (u.withWindow mask w ptr buf vram) = (advanceCounters u).withWindow mask w ptr buf vram := by
  unfold advanceCounters TimingUnit.withWindow
  split_ifs <;> rfl

theorem vblankEvent_withWindow (s : State) :
    vblankEvent (s.setPpu (s.ppu.withWindow mask w ptr buf vram)) =
      (vblankEvent s).setPpu ((vblankEvent s).ppu.withWindow mask w ptr buf vram) := by
  unfold vblankEvent TimingUnit.withWindow State.setPpu
  split_ifs <;> rfl

/-- A tick carries the other window registers through and computes everything else without them. -/
theorem ppuTick_withWindow (s : State) :
    ppuTick (s.setPpu (s.ppu.withWindow mask w ptr buf vram)) =
      (ppuTick s).setPpu ((ppuTick s).ppu.withWindow mask w ptr buf vram) := by
  simp only [ppuTick, vblankEvent_withWindow, State.setPpu_ppu, advanceCounters_withWindow]
  rfl

end

/-- A tick can only set `nmi_pending` (R237). -/
theorem ppuTick_nmiPending {s : State} (h : s.nmiPending = true) : (ppuTick s).nmiPending = true := by
  rw [ppuTick_frame]
  rcases vblankEvent_cases s with ⟨-, -, e⟩ | ⟨-, -, e⟩ | ⟨-, e⟩ <;> rw [e]
  · show (s.nmiPending || _) = true
    rw [h, Bool.true_or]
  · exact h
  · exact h

/-! ## The host -/

/-- CPU reset leaves every cell that maps to none of the zeroed addresses (70_reset_and_hazards.md R290). -/
theorem rawRead_zeroCells_other {addrs : List Word} {b : Word} (h : ∀ a ∈ addrs, mirror b ≠ mirror a)
    (s : State) : rawRead b (zeroCells addrs s) = rawRead b s := by
  induction addrs generalizing s with
  | nil => rfl
  | cons a rest ih =>
    obtain ⟨ha, hrest⟩ := List.forall_mem_cons.mp h
    rw [zeroCells, ih hrest, rawRead_rawWrite_other s ha]

/-- A call that is no system tick is a reset, which loads no memory. -/
theorem step_leaves_memory_of_no_tick {s t : State} (hirq : s.nextIrq = none) (h : step s = .next t) :
    t.ppu.vram = s.ppu.vram ∧
      ∀ b : Word, (∀ a ∈ s.cfg.apuZeroSet, mirror b ≠ mirror a) → rawRead b t = rawRead b s := by
  rcases step_cases s with ⟨irq, hi, -⟩ | ⟨rest, -, -, e⟩ | ⟨rest, -, -, e⟩
  · exact nomatch hirq.symm.trans hi
  · cases h.symm.trans e
    rw [cpuReset_frame]
    exact ⟨rfl, fun b hb => rawRead_zeroCells_other hb s.afterCall⟩
  · cases h.symm.trans e
    exact ⟨rfl, fun _ _ => rfl⟩

/-- Settles O60, by the frame of each of the three agents. -/
theorem eachAgentWritesItsOwnState : Obligations.EachAgentWritesItsOwnState := by
  refine ⟨cpuTick_frame, fun s mask w ptr buf vram => ⟨ppuTick_nmiPending, ?_⟩,
    fun _ _ _ => step_leaves_memory_of_no_tick⟩
  refine (ppuTick_withWindow mask w ptr buf vram s).trans ?_
  rw [ppuTick_frame]
  rfl

end Sys2Proof.Machine
end

section
/-! The encoding of an instruction as a row of the opcode table (30_encoding.md R70, R71, R76, R79). -/

namespace Sys2Proof

/-- The row of the opcode table that makes `i`, by its format: the opcode byte that indexes it, and the operand bytes
from which it makes `i`. The row is optional exactly when `i` is. -/
inductive EncodedByRow (i : Instr) : Prop
  | f1 {op : Byte} (bytes : encode i = [op]) (row : opRow op = some ⟨.f1 i, i.optional⟩) : EncodedByRow i
  | f2 {op d : Byte} {mk : Byte → Instr} (bytes : encode i = [op, d]) (row : opRow op = some ⟨.f2 mk, i.optional⟩)
      (made : mk d = i) : EncodedByRow i
  | f3 {op : Byte} {w : Word} {mk : Word → Instr} (bytes : encode i = [op, loByte w, hiByte w])
      (row : opRow op = some ⟨.f3 mk, i.optional⟩) (made : mk w = i) : EncodedByRow i

/-- Every instruction's row, by its format. -/
theorem encodedByRow : (i : Instr) → EncodedByRow i
  | .tax | .tay | .txa | .tya | .tsx | .txs | .pha | .php | .pla | .plp | .aslAcc | .lsrAcc | .rolAcc | .rorAcc
  | .inx | .iny | .dex | .dey | .rts | .clc | .sec | .cli | .sei | .clv | .cld | .sed | .nop | .brk | .rti =>
    .f1 rfl rfl
  | .ldaImm _ | .ldaZp _ | .ldaZpx _ | .ldaIndx _ | .ldaIndy _ | .ldxImm _ | .ldxZp _ | .ldxZpy _ | .ldyImm _
  | .ldyZp _ | .ldyZpx _ | .staZp _ | .staZpx _ | .staIndx _ | .staIndy _ | .stxZp _ | .stxZpy _ | .styZp _
  | .styZpx _ | .adcImm _ | .adcZp _ | .adcZpx _ | .adcIndx _ | .adcIndy _ | .sbcImm _ | .sbcZp _ | .sbcZpx _
  | .sbcIndx _ | .sbcIndy _ | .andImm _ | .andZp _ | .andZpx _ | .andIndx _ | .andIndy _ | .oraImm _ | .oraZp _
  | .oraZpx _ | .oraIndx _ | .oraIndy _ | .eorImm _ | .eorZp _ | .eorZpx _ | .eorIndx _ | .eorIndy _
  | .cmpImm _ | .cmpZp _ | .cmpZpx _ | .cmpIndx _ | .cmpIndy _ | .cpxImm _ | .cpxZp _ | .cpyImm _ | .cpyZp _
  | .bitZp _ | .aslZp _ | .aslZpx _ | .lsrZp _ | .lsrZpx _ | .rolZp _ | .rolZpx _ | .rorZp _ | .rorZpx _
  | .incZp _ | .incZpx _ | .decZp _ | .decZpx _ | .bcc _ | .bcs _ | .beq _ | .bne _ | .bpl _ | .bmi _ | .bvc _
  | .bvs _ | .aac0B _ | .aac2B _ | .aaxZp _ | .aaxZpy _ | .aaxIndx _ | .arr _ =>
    .f2 rfl rfl rfl
  | .ldaAbs _ | .ldaAbsx _ | .ldaAbsy _ | .ldxAbs _ | .ldxAbsy _ | .ldyAbs _ | .ldyAbsx _ | .staAbs _
  | .staAbsx _ | .staAbsy _ | .stxAbs _ | .styAbs _ | .adcAbs _ | .adcAbsx _ | .adcAbsy _ | .sbcAbs _
  | .sbcAbsx _ | .sbcAbsy _ | .andAbs _ | .andAbsx _ | .andAbsy _ | .oraAbs _ | .oraAbsx _ | .oraAbsy _
  | .eorAbs _ | .eorAbsx _ | .eorAbsy _ | .cmpAbs _ | .cmpAbsx _ | .cmpAbsy _ | .cpxAbs _ | .cpyAbs _
  | .bitAbs _ | .aslAbs _ | .aslAbsx _ | .lsrAbs _ | .lsrAbsx _ | .rolAbs _ | .rolAbsx _ | .rorAbs _
  | .rorAbsx _ | .incAbs _ | .incAbsx _ | .decAbs _ | .decAbsx _ | .jmpAbs _ | .jmpInd _ | .jsr _ | .aaxAbs _ =>
    .f3 rfl rfl rfl

/-- No instruction is longer than three bytes (R71). -/
theorem Instr.length_le_three (i : Instr) : i.length ≤ 3 := by
  rw [Instr.length]
  cases encodedByRow i with
  | f1 bytes => simp [bytes]
  | f2 bytes => simp [bytes]
  | f3 bytes => simp [bytes]

/-- The decoder reads an instruction of the machine back from its bytes, whatever follows them. -/
theorem decode_encode {u : Bool} {i : Instr} (h : i.wellFormed u = true) (rest : List Byte) :
    decode u (encode i ++ rest) = .ok (i, rest) := by
  have enabled : (i.optional && !u) = false := by
    revert h
    cases u <;> simp [Instr.wellFormed]
  cases encodedByRow i with
  | f1 bytes row => simp [decode, bytes, row, enabled]
  | f2 bytes row made => simp [decode, bytes, row, enabled, made]
  | f3 bytes row made => simp [decode, bytes, row, enabled, made]

end Sys2Proof
end

section
/-! The tick that executes an instruction and the tick that waits (38_fetch_execute.md R90 to R92, R97). -/

namespace Sys2Proof.Machine

theorem ppuPhase_of_running {s : State} (h : s.halted = none) : ppuPhase s = ppuTicks s.cfg.ppuPerCpu s := by
  simp [ppuPhase, h]

/-- Between boundaries a Scheduler tick looks at neither interrupt. -/
theorem cpuTick_of_waiting (irq : Bool) {s : State} (hr : s.halted = none) (hw : 0 < s.wait) :
    cpuTick irq s = .next (s.setWait (s.wait - 1)) := by
  simp [cpuTick, hr, hw]

theorem cpuTick_of_boundary {irq : Bool} {s : State} (hr : s.halted = none) (hw : s.wait = 0)
    (hn : s.nmiPending = false) (hi : (irq && !s.p.i) = false) : cpuTick irq s = executeOne s := by
  simp [cpuTick, hr, hw, hn, hi]

/-- A running block's step is its Scheduler tick, then the Timing Unit's part (70_reset_and_hazards.md R298). -/
theorem step_of_cpuTick {s t : State} {irq : Bool} (hi : s.nextIrq = some irq) (hr : s.halted = none)
    (h : cpuTick irq s.afterCall = .next t) : step s = .next (ppuPhase t) := by
  rcases step_cases s with ⟨irq', hi', e⟩ | ⟨_, hi', -⟩ | ⟨_, hi', -⟩
  · cases hi.symm.trans hi'
    simp [e, systemTick, hr, h]
  · exact nomatch hi.symm.trans hi'
  · exact nomatch hi.symm.trans hi'

/-- Settles O9: the tick's one act is the count, and the Timing Unit ticks on. -/
theorem waitingTickOnlyCountsDown : Obligations.WaitingTickOnlyCountsDown := by
  intro s irq hr hw hi
  have tick := cpuTick_of_waiting irq (s := s.afterCall) hr hw
  rw [step_of_cpuTick hi hr tick, ppuPhase_of_running (s := s.afterCall.setWait _) hr]
  rfl

/-- The Scheduler tick of a state that executes an instruction takes no interrupt. -/
theorem State.executes.exists_cpuTick {s : State} (h : s.executes) :
    ∃ irq, s.nextIrq = some irq ∧ cpuTick irq s.afterCall = executeOne s.afterCall := by
  obtain ⟨hr, hw, hn, hi | ⟨hi, masked⟩⟩ := h
  · exact ⟨false, hi, cpuTick_of_boundary hr hw hn rfl⟩
  · exact ⟨true, hi, cpuTick_of_boundary hr hw hn (by simp [masked])⟩

/-- The instruction that a state executes completes, leaves the block running, and the Timing Unit ticks after it. -/
theorem step_of_decode {s : State} {i : Instr} {rest : List Byte} (hx : s.executes)
    (hd : decode s.cfg.unofficial (fetchBytes s) = .ok (i, rest)) :
    ∃ t, exec i s.afterCall = .next t ∧ t.halted = none ∧ step s = .next (ppuTicks t.cfg.ppuPerCpu t) := by
  obtain ⟨t, run, acc⟩ := exec_accesses i s.afterCall
  have hr : s.halted = none := hx.1
  have running : t.halted = none := acc.halted_eq.trans hr
  obtain ⟨irq, hi, tick⟩ := hx.exists_cpuTick
  have one : executeOne s.afterCall = .next t := by
    rcases executeOne_cases s.afterCall with ⟨i', rest', hd', e⟩ | ⟨e, hd', -⟩
    · cases hd.symm.trans hd'
      exact e.trans run
    · exact nomatch hd.symm.trans hd'
  refine ⟨t, run, running, ?_⟩
  rw [step_of_cpuTick hi hr (tick.trans one), ppuPhase_of_running running]

/-- Settles O5: the decoded instruction completes, so of the three answers only the first occurs. -/
theorem stepRunsTheDecodedInstruction : Obligations.StepRunsTheDecodedInstruction := by
  intro s i rest hx hd
  obtain ⟨t, run, running, hstep⟩ := step_of_decode hx hd
  simp [hstep, run, running]

/-- The bytes the decoder is given are the three cells from `PC` on. -/
theorem fetchBytes_getElem (s : State) :
    ∀ {k : Nat} (hk : k < (fetchBytes s).length), (fetchBytes s)[k] = fetch (s.pc + BitVec.ofNat 16 k) s
  | 0, _ => by simp [fetchBytes]
  | 1, _ => rfl
  | 2, _ => rfl

/-- At most three bytes that stand in the cells from `PC` on are the first that the decoder is given. -/
theorem prefix_fetchBytes {s : State} {bytes : List Byte} (hlen : bytes.length ≤ (fetchBytes s).length)
    (h : ∀ k < bytes.length, fetch (s.pc + BitVec.ofNat 16 k) s = bytes.getD k 0x00#8) : bytes <+: fetchBytes s :=
  List.prefix_iff_getElem.mpr ⟨hlen, fun k hk => by
    rw [fetchBytes_getElem, h k hk, List.getD_eq_getElem _ _ hk]⟩

/-- Settles O6: the bytes the decoder is given begin with the encoding of `i`, so it answers `i`. -/
theorem stepExecutesEveryEncodedInstruction : Obligations.StepExecutesEveryEncodedInstruction := by
  intro s i hx hwf hbytes
  obtain ⟨rest, hrest⟩ := prefix_fetchBytes i.length_le_three hbytes
  exact step_of_decode hx (hrest ▸ decode_encode hwf rest)

end Sys2Proof.Machine
end

section
/-! The stack (40_addressing_and_stack.md section 2): what a push stores, and that pops undo pushes. -/

namespace Sys2Proof.Machine

@[simp] theorem push_sp (v : Byte) (s : State) : (push v s).sp = s.sp - 1#8 := rfl

@[simp] theorem push16_sp (w : Word) (s : State) : (push16 w s).sp = s.sp - 1#8 - 1#8 := rfl

theorem push_mem_wf {s : State} (hs : s.mem.wf) (v : Byte) : (push v s).mem.wf := Memory.write_wf hs _ v

/-- A push stores its byte in the cell `SP` designates and in no other (R112). -/
theorem push_storedAt {s : State} (hs : s.mem.wf) (v : Byte) :
    Claims.StoredAt (stackAddr s.sp) v s (push v s) :=
  ⟨rawRead_memWrite_same hs _ v, fun _ h => rawRead_memWrite_other s h v⟩

/-- The low byte of a 16-bit push is the second one stored (R114). -/
theorem rawRead_push16_low {s : State} (hs : s.mem.wf) (w : Word) :
    rawRead (stackAddr (s.sp - 1#8)) (push16 w s) = loByte w :=
  (push_storedAt (push_mem_wf hs (hiByte w)) (loByte w)).1

/-- The high byte of a 16-bit push stays where it was stored first: the low byte goes to another cell, at every `SP`
(R114). -/
theorem rawRead_push16_high {s : State} (hs : s.mem.wf) (w : Word) :
    rawRead (stackAddr s.sp) (push16 w s) = hiByte w := by
  have other : mirror (stackAddr s.sp) ≠ mirror (stackAddr (push (hiByte w) s).sp) := by
    rw [mirror_stackAddr, mirror_stackAddr, push_sp, Ne, stackAddr_injective]
    bv_omega
  exact ((push_storedAt (push_mem_wf hs _) _).2 _ other).trans (push_storedAt hs _).1

/-- `Pop16()`, all of it: `SP`, and the values of two cells of page one (R114). -/
theorem pop16_eq (s : State) :
    pop16 s = (word (rawRead (stackAddr (s.sp + 1#8 + 1#8)) s) (rawRead (stackAddr (s.sp + 1#8)) s),
      { s with sp := s.sp + 1#8 + 1#8 }) := by
  unfold pop16
  simp only [pop_eq]
  rfl

/-- A pop after a push answers the byte and restores `SP` (R115). -/
theorem pop_push {s : State} (hs : s.mem.wf) (v : Byte) :
    (pop (push v s)).1 = v ∧ (pop (push v s)).2.sp = s.sp := by
  rw [pop_eq, push_sp, BitVec.sub_add_cancel]
  exact ⟨(push_storedAt hs v).1, rfl⟩

/-- A 16-bit pop after a 16-bit push answers the word and restores `SP` (R115). -/
theorem pop16_push16 {s : State} (hs : s.mem.wf) (w : Word) :
    (pop16 (push16 w s)).1 = w ∧ (pop16 (push16 w s)).2.sp = s.sp := by
  rw [pop16_eq, push16_sp, BitVec.sub_add_cancel, BitVec.sub_add_cancel, rawRead_push16_high hs, rawRead_push16_low hs]
  exact ⟨word_halves w, rfl⟩

/-- Settles O32: the two bytes lie in different cells at every `SP`, so the pops find them both. -/
theorem stackRoundTrip : Obligations.StackRoundTrip := by
  intro w v s hs
  have sp : (push16 w s).sp = s.sp - 2#8 := by
    rw [push16_sp]
    bv_omega
  obtain ⟨word_eq, sp_eq⟩ := pop16_push16 hs w
  exact ⟨rawRead_push16_high hs w, rawRead_push16_low hs w, sp, rfl, rfl, word_eq, sp_eq, pop_push hs v⟩

/-- Settles O33, from the whole states a push and a pop leave. -/
theorem stackStaysInPageOne : Obligations.StackStaysInPageOne := by
  intro v s hs
  have down : BitVec.ofNat 8 (s.sp.toNat + 255) = s.sp - 1#8 := by bv_omega
  have up : BitVec.ofNat 8 (s.sp.toNat + 1) = s.sp + 1#8 := by bv_omega
  have addr : (word 0x01#8 s.sp).toNat = 0x100 + s.sp.toNat := stackAddr_toNat s.sp
  have lt := s.sp.isLt
  refine ⟨by omega, by omega, mirror_stackAddr s.sp, push_storedAt hs v, ?_, ?_⟩
  · rw [down, push_eq]
  · rw [up]
    exact pop_eq s

end Sys2Proof.Machine
end

section
/-! The resolver (40_addressing_and_stack.md section 1): effective addresses and page crosses as arithmetic. -/

namespace Sys2Proof.Machine

/-- A zero-page address formed with an index wraps inside page zero (R102, R103, R107). -/
theorem zeroPage_add (d index : Byte) :
    zeroPage (d + index) = BitVec.ofNat 16 ((d.toNat + index.toNat) % 256) := by
  apply BitVec.eq_of_toNat_eq
  rw [zeroPage_toNat, BitVec.toNat_add, BitVec.toNat_ofNat]
  omega

/-- The sum an indexed form makes (R105, R106, R108). -/
theorem indexed_eq (base : Word) (index : Byte) :
    indexed base index =
      (BitVec.ofNat 16 (base.toNat + index.toNat), decide (base.toNat % 256 + index.toNat > 0xFF)) := by
  have sum : base + zeroPage index = BitVec.ofNat 16 (base.toNat + index.toNat) := by
    apply BitVec.eq_of_toNat_eq
    rw [BitVec.toNat_add, zeroPage_toNat, BitVec.toNat_ofNat]
  rw [indexed, sum, loByte_toNat]

/-- The low byte overflows exactly when the sum lies in another page, also where the sum wraps to page zero. -/
theorem indexed_crosses_iff (base : Word) (index : Byte) :
    (indexed base index).2 = true ↔ page (indexed base index).1 ≠ page base := by
  have hb := base.isLt
  have hi := index.isLt
  rw [indexed_eq, decide_eq_true_iff, Ne, ← BitVec.toNat_inj, page_toNat, page_toNat, BitVec.toNat_ofNat]
  omega

/-- Settles O34, form by form. -/
theorem resolverDirectAndIndexedForms : Obligations.ResolverDirectAndIndexedForms := by
  intro s d w
  have direct : zeroPage d = BitVec.ofNat 16 d.toNat :=
    BitVec.eq_of_toNat_eq (by rw [zeroPage_toNat, BitVec.toNat_ofNat]; omega)
  exact ⟨congrArg (·, false) direct, congrArg (·, false) (zeroPage_add d s.x),
    congrArg (·, false) (zeroPage_add d s.y), rfl, indexed_eq w s.x, indexed_eq w s.y,
    indexed_crosses_iff w s.x, indexed_crosses_iff w s.y⟩

/-- A data read of page zero is a read of the array, with no side effect (R111). -/
theorem memRead_zeroPage (d : Byte) (s : State) : memRead (zeroPage d) s = (s.mem.read d.toNat, s) := by
  have lt := d.isLt
  have plain : mirror (zeroPage d) = zeroPage d := mirror_of_lt (by rw [zeroPage_toNat]; omega)
  rw [memRead_plain (windowRead_outside _ (by rw [plain, zeroPage_toNat]; omega)), rawRead_eq, plain, zeroPage_toNat]

/-- A zero-page pointer wraps inside page zero (R107, R108). -/
theorem zeroPagePointer_eq (p : Byte) (s : State) :
    zeroPagePointer p s = word (s.mem.read ((p.toNat + 1) % 256)) (s.mem.read p.toNat) := by
  rw [zeroPagePointer, memRead_zeroPage, memRead_zeroPage, BitVec.toNat_add]
  rfl

/-- Settles O35: the pointer's two bytes, then the indexed sum. -/
theorem resolverIndirectForms : Obligations.ResolverIndirectForms := by
  intro s d
  have pointer := zeroPagePointer_eq d s
  have low := (s.mem.read d.toNat).isLt
  refine ⟨?_, ?_, ?_⟩
  · rw [resolve, zeroPagePointer_eq, BitVec.toNat_add, Nat.mod_add_mod]
  · rw [resolve, indexed_eq, pointer, word_toNat, Nat.mul_add_mod_self_right, Nat.mod_eq_of_lt low]
  · rw [resolve, indexed_crosses_iff, pointer, page, page, hiByte_word]

/-- Settles O36: the forms of the resolver are read through it, the two others are not. -/
theorem operandValueOfEachForm : Obligations.OperandValueOfEachForm := by
  intro s d w
  refine ⟨rfl, rfl, fun m hm => ?_⟩
  simp only [List.mem_cons, List.not_mem_nil, or_false] at hm
  rcases hm with rfl | rfl | rfl | rfl | rfl | rfl | rfl | rfl <;> rfl

end Sys2Proof.Machine
end

section
/-! Instructions that read an operand into registers and flags (38_fetch_execute.md R90,
40_addressing_and_stack.md R109, R110), and the loads (41_load_store_transfer.md section 1). -/

namespace Sys2Proof.Machine

/-- A register update and the wait counter do not meet. -/
theorem RegisterUpdate.setWait {f : State → State} (h : RegisterUpdate f) (t : State) (n : Nat) :
    f (t.setWait n) = (f t).setWait n :=
  calc f (t.setWait n) = (f t).onto (t.setWait n) := h.onto t (t.setWait n)
    _ = (f t).setWait n := by rw [h.frame t]; rfl

/-- What an instruction built on `readInstr` does, when its update is one of registers and flags. -/
theorem reads_of_readInstr {i : Instr} {m : Operand} {cost : Nat} {penalised : Bool} {f : Byte → State → State}
    (update : ∀ v, RegisterUpdate (f v)) {s : State} (run : exec i s = readInstr m cost penalised f s)
    (ticks : 1 ≤ cost := by decide) : Claims.Reads i m (operandLength m) cost penalised f s := by
  have wait : cost + (if penalised then if (resolve m s).2 then 1 else 0 else 0) - 1 =
      cost - 1 + (if penalised && (resolve m s).2 then 1 else 0) := by
    cases penalised
    · rfl
    · exact Nat.sub_add_comm ticks
  rw [Claims.Reads, run, readInstr_eq, ← (update _).setWait, wait]
  rfl

/-- Settles O42: every form is `readInstr` with the load of its register. -/
theorem loadsFillTheRegister : Obligations.LoadsFillTheRegister := by
  intro s d w
  have lda {i m cost penalised} := @reads_of_readInstr i m cost penalised _ loadA_valueUpdate.update s
  have ldx {i m cost penalised} := @reads_of_readInstr i m cost penalised _ loadX_valueUpdate.update s
  have ldy {i m cost penalised} := @reads_of_readInstr i m cost penalised _ loadY_valueUpdate.update s
  exact ⟨lda rfl, lda rfl, lda rfl, lda rfl, lda rfl, lda rfl, lda rfl, lda rfl,
    ldx rfl, ldx rfl, ldx rfl, ldx rfl, ldx rfl, ldy rfl, ldy rfl, ldy rfl, ldy rfl, ldy rfl⟩

end Sys2Proof.Machine
end

section
/-! Instructions with no operand that update registers and flags, push or pull (40_addressing_and_stack.md R110,
R112, R113): the transfers, the index counts and the stack instructions (41_load_store_transfer.md sections 3 and 4,
43_shift_incdec.md section 3). -/

namespace Sys2Proof.Machine

/-- A register update neither looks at nor changes `PC` and `wait`, so it may be taken of the state the instruction starts
from (R90). -/
theorem RegisterUpdate.complete_advance {f : State → State} (h : RegisterUpdate f) (cost : Nat) (s : State) :
    complete cost (f (advance 1 s)) = .next { f s with pc := s.pc + 1#16, wait := cost - 1 } :=
  calc complete cost (f (advance 1 s)) = complete cost ((f s).onto (advance 1 s)) :=
        congrArg (complete cost) (h.onto s (advance 1 s))
    _ = .next { f s with pc := s.pc + 1#16, wait := cost - 1 } := by rw [h.frame s]; rfl

/-- A value update by a byte made of the registers is itself a register update. -/
theorem ValueUpdate.ofRegisters {f : Byte → State → State} (h : ValueUpdate f) (v : Byte → Byte → Byte → Byte → Byte) :
    RegisterUpdate fun t => f (v t.a t.x t.y t.sp) t :=
  ⟨fun t r => (h.update _).onto t r, fun t => (h.update _).cfg t⟩

/-- Settles O44: every one of the ten is `impliedInstr` with the load of its destination, which is a register update. -/
theorem transfersAndIndexCounts : Obligations.TransfersAndIndexCounts := by
  intro s
  have toA v := (loadA_valueUpdate.ofRegisters v).complete_advance 2 s
  have toX v := (loadX_valueUpdate.ofRegisters v).complete_advance 2 s
  have toY v := (loadY_valueUpdate.ofRegisters v).complete_advance 2 s
  have toSp v := (setSp_valueUpdate.ofRegisters v).complete_advance 2 s
  exact ⟨toX fun a _ _ _ => a, toY fun a _ _ _ => a, toA fun _ x _ _ => x, toA fun _ _ y _ => y,
    toX fun _ _ _ sp => sp, toSp fun _ x _ _ => x,
    toX fun _ x _ _ => x + 1#8, toY fun _ _ y _ => y + 1#8, toX fun _ x _ _ => x - 1#8, toY fun _ _ y _ => y - 1#8⟩

/-- An instruction that pushes a byte made of `A` and the flags: the stack cell, `SP`, `PC` and the wait (R112). -/
theorem impliedInstr_push {s : State} (hs : s.mem.wf) (cost : Nat) (v : Byte → Flags → Byte) :
    ∃ t, impliedInstr cost (fun t => push (v t.a t.p) t) s = .next t ∧
      Claims.StoredAt (stackAddr s.sp) (v s.a s.p) s t ∧
      t = { s with sp := s.sp - 1#8, pc := s.pc + 1#16, wait := cost - 1, mem := t.mem } := by
  refine ⟨(push (v s.a s.p) (advance 1 s)).setWait (cost - 1), rfl, push_storedAt (s := advance 1 s) hs _, ?_⟩
  rw [push_eq]
  rfl

/-- An instruction that pulls a byte into registers and flags: what the update leaves of the state with `SP` counted
up, `PC` and the wait (R113). -/
theorem impliedInstr_pull {f : Byte → State → State} (update : ∀ v, RegisterUpdate (f v)) (cost : Nat) (s : State) :
    impliedInstr cost (fun t => f (pop t).1 (pop t).2) s =
      .next { f (rawRead (stackAddr (s.sp + 1#8)) s) { s with sp := s.sp + 1#8 } with
        pc := s.pc + 1#16, wait := cost - 1 } := by
  rw [impliedInstr, pop_eq]
  exact (update _).complete_advance cost { s with sp := s.sp + 1#8 }

/-- `SetP` of the pulled byte. -/
theorem setFlagsOfByte_update (v : Byte) : RegisterUpdate fun t => t.setP (flagsOfByte v) :=
  ⟨fun _ _ => rfl, fun _ => rfl⟩

/-- Settles O45: PHA and PHP push, PLA and PLP pull. -/
theorem pushAndPullInstructions : Obligations.PushAndPullInstructions := by
  intro s hs
  exact ⟨impliedInstr_push hs 3 fun a _ => a, impliedInstr_push hs 3 fun _ p => pByte p true,
    impliedInstr_pull loadA_valueUpdate.update 4 s, impliedInstr_pull setFlagsOfByte_update 4 s⟩

end Sys2Proof.Machine
end

section
/-! Addition, subtraction and comparison of bytes in integers (42_arithmetic_logic_compare.md R140, R141, R149,
R150). -/

namespace Sys2Proof.Machine

/-! ## Bit 7 -/

/-- A byte's bit 7 is set from 128 on. -/
theorem getLsbD_seven (v : Byte) : v.getLsbD 7 = decide (128 ≤ v.toNat) := BitVec.msb_eq_decide v

/-- The mask 0x80 tests bit 7. -/
theorem decide_and_signBit (v : Byte) : decide (v &&& 0x80#8 ≠ 0x00#8) = v.getLsbD 7 := by
  rw [show (0x80#8 : Byte) = BitVec.twoPow 8 7 from rfl, BitVec.and_twoPow]
  cases v.getLsbD 7 <;> rfl

/-- A byte in two's complement. -/
theorem byte_toInt (v : Byte) : v.toInt = (v.toNat : Int) - if 128 ≤ v.toNat then 256 else 0 := by
  rw [BitVec.toInt_eq_toNat_cond]
  split <;> split <;> omega

/-! ## ADC -/

/-- The sum of two bytes and a carry does not overflow nine bits (R140). -/
theorem total_toNat (a m : Byte) (c : Bool) :
    (a.setWidth 9 + m.setWidth 9 + (BitVec.ofBool c).setWidth 9).toNat = a.toNat + m.toNat + c.toNat := by
  have ha := a.isLt
  have hm := m.isLt
  have hc := c.toNat_le
  simp only [BitVec.toNat_add, BitVec.toNat_setWidth, BitVec.toNat_ofBool]
  omega

theorem adc_result_toNat (a m : Byte) (p : Flags) :
    (adc a m p).1.toNat = (a.toNat + m.toNat + p.c.toNat) % 256 := by
  rw [adc, BitVec.toNat_setWidth, total_toNat]

theorem adc_carry (a m : Byte) (p : Flags) :
    (adc a m p).2.c = decide (a.toNat + m.toNat + p.c.toNat > 0xFF) := by
  simp only [adc, gt_iff_lt, BitVec.lt_def, total_toNat]
  rfl

theorem adc_negative (a m : Byte) (p : Flags) : (adc a m p).2.n = (adc a m p).1.getLsbD 7 :=
  decide_and_signBit _

/-- V is set when the result's sign differs from the signs of both addends (R140). -/
theorem adc_overflow_eq_signs (a m : Byte) (p : Flags) :
    (adc a m p).2.v =
      ((a.getLsbD 7 ^^ (adc a m p).1.getLsbD 7) && (m.getLsbD 7 ^^ (adc a m p).1.getLsbD 7)) := by
  rw [← BitVec.getLsbD_xor, ← BitVec.getLsbD_xor, ← BitVec.getLsbD_and]
  exact decide_and_signBit _

/-- The signs differ so exactly when the two's-complement sum is no signed byte. -/
theorem adc_overflow (a m : Byte) (p : Flags) :
    (adc a m p).2.v =
      decide (a.toInt + m.toInt + p.c.toNat < -128 ∨ 127 < a.toInt + m.toInt + p.c.toNat) := by
  have ha := a.isLt
  have hm := m.isLt
  have hc := p.c.toNat_le
  rw [adc_overflow_eq_signs, getLsbD_seven, getLsbD_seven, getLsbD_seven, adc_result_toNat, byte_toInt, byte_toInt,
    Bool.eq_iff_iff]
  simp only [Bool.and_eq_true, Bool.xor_iff_ne, ne_eq, decide_eq_decide, decide_eq_true_eq]
  split <;> split <;> omega

/-- Settles O37, flag by flag. -/
theorem adcIsIntegerAddition : Obligations.AdcIsIntegerAddition := by
  intro a m p
  have result := adc_result_toNat a m p
  refine ⟨BitVec.eq_of_toNat_eq (by rw [result, BitVec.toNat_ofNat]), ?_⟩
  have zero : (adc a m p).2.z = decide ((a.toNat + m.toNat + p.c.toNat) % 256 = 0) :=
    decide_eq_decide.mpr (by rw [← result]; exact BitVec.toNat_eq)
  have negative := adc_negative a m p
  rw [getLsbD_seven, result] at negative
  rw [← adc_carry, ← adc_overflow, ← zero, ← negative]
  rfl

/-! ## SBC -/

/-- The complement that SBC adds, unsigned (R141). -/
theorem xor_FF_toNat (m : Byte) : (m ^^^ 0xFF#8).toNat = 255 - m.toNat := by
  rw [show (0xFF#8 : Byte) = BitVec.allOnes 8 from rfl, BitVec.xor_allOnes, BitVec.toNat_not]

/-- The complement that SBC adds, in two's complement. -/
theorem xor_FF_toInt (m : Byte) : (m ^^^ 0xFF#8).toInt = -1 - m.toInt := by
  have hm := m.isLt
  rw [byte_toInt, byte_toInt, xor_FF_toNat]
  split <;> split <;> omega

/-- Settles O38: adding the complement subtracts the operand and 1, so each clause is the addition's, less 256. -/
theorem sbcIsIntegerSubtraction : Obligations.SbcIsIntegerSubtraction := by
  intro a m p
  have hm := m.isLt
  have result : (sbc a m p).1.toNat = (a.toNat + (255 - m.toNat) + p.c.toNat) % 256 := by
    rw [sbc, adc_result_toNat, xor_FF_toNat]
  have carry : (sbc a m p).2.c = decide (0 ≤ (a.toNat : Int) - m.toNat - (1 - p.c.toNat)) := by
    rw [sbc, adc_carry, xor_FF_toNat, decide_eq_decide]
    omega
  have overflow : (sbc a m p).2.v =
      decide (a.toInt - m.toInt - (1 - p.c.toNat) < -128 ∨ 127 < a.toInt - m.toInt - (1 - p.c.toNat)) := by
    rw [sbc, adc_overflow, xor_FF_toInt, decide_eq_decide]
    omega
  constructor
  · apply BitVec.eq_of_toNat_eq
    rw [result, BitVec.toNat_ofInt]
    omega
  · rw [← carry, ← overflow, sbc, ← adc_negative]
    rfl

/-! ## Comparisons -/

/-- The 8-bit difference has the sign of the integer difference exactly when that is a signed byte. -/
theorem sub_getLsbD_seven_iff (reg m : Byte) :
    decide ((reg.toNat : Int) - m.toNat < 0) = (reg - m).getLsbD 7 ↔
      -128 ≤ (reg.toNat : Int) - m.toNat ∧ (reg.toNat : Int) - m.toNat ≤ 127 := by
  have hr := reg.isLt
  have hm := m.isLt
  rw [getLsbD_seven, BitVec.toNat_sub, decide_eq_decide]
  omega

/-- Settles O39, from the integer difference the flags are computed from. -/
theorem compareFlagsUnderBothRules : Obligations.CompareFlagsUnderBothRules := by
  intro rule reg m p
  have carry : (compareFlags rule reg m p).c = decide (m.toNat ≤ reg.toNat) :=
    decide_eq_decide.mpr (by omega)
  have zero : (compareFlags rule reg m p).z = decide (reg = m) :=
    decide_eq_decide.mpr (by rw [← BitVec.toNat_inj]; omega)
  refine ⟨?_, ?_, rfl, sub_getLsbD_seven_iff reg m⟩
  · rw [← carry, ← zero]
    rfl
  · exact (decide_eq_decide.mpr not_le.symm).trans (decide_not ..)

end Sys2Proof.Machine
end

section
/-! The instructions that add, subtract, combine and compare (42_arithmetic_logic_compare.md sections 2 to 4). -/

namespace Sys2Proof.Machine

/-- An ALU operation on `A` updates `A` and the flags only. -/
theorem aluA_update (f : Byte → Byte → Flags → Byte × Flags) (m : Byte) : RegisterUpdate (aluA f m) :=
  ⟨fun _ _ => rfl, fun _ => rfl⟩

/-- Settles O46: every form is `readInstr` with the ALU operation of its instruction. -/
theorem addAndSubtractInstructions : Obligations.AddAndSubtractInstructions := by
  intro s d w
  have add {i m cost penalised} := @reads_of_readInstr i m cost penalised _ (aluA_update adc) s
  have sub {i m cost penalised} := @reads_of_readInstr i m cost penalised _ (aluA_update sbc) s
  exact ⟨add rfl, add rfl, add rfl, add rfl, add rfl, add rfl, add rfl, add rfl,
    sub rfl, sub rfl, sub rfl, sub rfl, sub rfl, sub rfl, sub rfl, sub rfl⟩

/-- Settles O47: every form is `readInstr` with the load into `A` of its combination. -/
theorem logicInstructions : Obligations.LogicInstructions := by
  intro s d w
  have and_ {i m cost penalised} := @reads_of_readInstr i m cost penalised _ (logic_valueUpdate (· &&& ·)).update s
  have ora {i m cost penalised} := @reads_of_readInstr i m cost penalised _ (logic_valueUpdate (· ||| ·)).update s
  have eor {i m cost penalised} := @reads_of_readInstr i m cost penalised _ (logic_valueUpdate (· ^^^ ·)).update s
  exact ⟨and_ rfl, and_ rfl, and_ rfl, and_ rfl, and_ rfl, and_ rfl, and_ rfl, and_ rfl,
    ora rfl, ora rfl, ora rfl, ora rfl, ora rfl, ora rfl, ora rfl, ora rfl,
    eor rfl, eor rfl, eor rfl, eor rfl, eor rfl, eor rfl, eor rfl, eor rfl⟩

/-- Settles O48: every form is `readInstr` with the comparison of its register. -/
theorem compareInstructions : Obligations.CompareInstructions := by
  intro s d w
  have cmp {i m cost penalised} :=
    @reads_of_readInstr i m cost penalised _ (compare_valueUpdate fun a _ _ => a).update s
  have cpx {i m cost penalised} :=
    @reads_of_readInstr i m cost penalised _ (compare_valueUpdate fun _ x _ => x).update s
  have cpy {i m cost penalised} :=
    @reads_of_readInstr i m cost penalised _ (compare_valueUpdate fun _ _ y => y).update s
  exact ⟨cmp rfl, cmp rfl, cmp rfl, cmp rfl, cmp rfl, cmp rfl, cmp rfl, cmp rfl,
    cpx rfl, cpx rfl, cpx rfl, cpy rfl, cpy rfl, cpy rfl⟩

end Sys2Proof.Machine
end

section
/-! The nine-bit rotations ROL and ROR (43_shift_incdec.md R162, R163). -/

namespace Sys2Proof.Machine

/-- A byte under the carry: the nine bits that a rotate moves round. -/
def nineBits (q : Byte × Flags) : BitVec 9 := BitVec.cons q.2.c q.1

/-- The nine bits determine the byte and the carry. -/
theorem nineBits_inj {q r : Byte × Flags} (h : nineBits q = nineBits r) : q.1 = r.1 ∧ q.2.c = r.2.c := by
  have byte := congrArg (BitVec.setWidth 8) h
  have carry := congrArg BitVec.msb h
  simp only [nineBits, BitVec.setWidth_cons, BitVec.msb_cons] at byte carry
  exact ⟨byte, carry⟩

/-- Rotating left moves each of the nine bits up by one, the carry into bit 0. -/
theorem nineBits_rol (q : Byte × Flags) : nineBits (rol q.1 q.2) = (nineBits q).rotateLeft 1 := by
  ext k hk
  cases k with
  | zero => simp [nineBits, rol, setZN, BitVec.getElem_rotateLeft, BitVec.getElem_cons]
  | succ k =>
    have old : k ≠ 8 := by omega
    by_cases top : k = 7 <;>
      simp [nineBits, rol, setZN, BitVec.getElem_rotateLeft, BitVec.getElem_cons, top, old]

/-- Rotating right by one is rotating the nine bits left by eight: each moves down by one, bit 0 into the carry. -/
theorem nineBits_ror (q : Byte × Flags) : nineBits (ror q.1 q.2) = (nineBits q).rotateLeft 8 := by
  ext k hk
  obtain low | rfl | rfl : k < 7 ∨ k = 7 ∨ k = 8 := by omega
  · have inside : k < 8 := by omega
    have next : 1 + k < 8 := by omega
    simp [nineBits, ror, setZN, BitVec.getElem_rotateLeft, BitVec.getElem_cons, low, inside, inside.ne, next, next.ne]
  · simp [nineBits, ror, setZN, BitVec.getElem_rotateLeft, BitVec.getElem_cons]
  · simp [nineBits, ror, setZN, BitVec.getElem_rotateLeft, BitVec.getElem_cons]

theorem rotateLeft_rotateLeft {w : Nat} (x : BitVec w) (m n : Nat) :
    (x.rotateLeft m).rotateLeft n = x.rotateLeft (m + n) := by
  apply BitVec.eq_of_getMsbD_eq
  intro k hk
  have pos : (n + k) % w < w := Nat.mod_lt _ (by omega)
  simp [BitVec.getMsbD_rotateLeft, hk, pos, Nat.add_assoc]

@[simp] theorem rotateLeft_zero {w : Nat} (x : BitVec w) : x.rotateLeft 0 = x := by
  apply BitVec.eq_of_getMsbD_eq
  intro k hk
  simp [BitVec.getMsbD_rotateLeft, hk, Nat.mod_eq_of_lt hk]

/-- A rotation by the whole width changes nothing. -/
theorem rotateLeft_width {w : Nat} (x : BitVec w) : x.rotateLeft w = x := by
  rw [← BitVec.rotateLeft_mod_eq_rotateLeft, Nat.mod_self, rotateLeft_zero]

/-- ROL done `n` times is one rotation by `n`. -/
theorem nineBits_iterate_rol (q : Byte × Flags) (n : Nat) :
    nineBits ((fun q : Byte × Flags => rol q.1 q.2)^[n] q) = (nineBits q).rotateLeft n := by
  induction n with
  | zero => exact (rotateLeft_zero _).symm
  | succ n ih => rw [Function.iterate_succ_apply', nineBits_rol, ih, rotateLeft_rotateLeft]

/-- Settles O41: each clause is a rotation of nine bits by nine. -/
theorem nineRotationsRestore : Obligations.NineRotationsRestore := by
  intro v p
  have turn : (nineBits (v, p)).rotateLeft 9 = nineBits (v, p) := rotateLeft_width _
  have nine := nineBits_inj ((nineBits_iterate_rol (v, p) 9).trans turn)
  have right : nineBits (ror (rol v p).1 (rol v p).2) = nineBits (v, p) := by
    rw [nineBits_ror, nineBits_rol (v, p), rotateLeft_rotateLeft, turn]
  have left : nineBits (rol (ror v p).1 (ror v p).2) = nineBits (v, p) := by
    rw [nineBits_rol, nineBits_ror (v, p), rotateLeft_rotateLeft, turn]
  exact ⟨nine.1, nine.2, (nineBits_inj right).1, (nineBits_inj right).2, (nineBits_inj left).1, (nineBits_inj left).2⟩

end Sys2Proof.Machine
end

section
/-! The shifts, rotates and counts (43_shift_incdec.md sections 1 and 2): a read-modify-write instruction on `A` and on
memory, and the rotates' results as arithmetic. -/

namespace Sys2Proof.Machine

/-- ROL doubles the byte and adds the carry (R162). -/
theorem rol_result (v : Byte) (p : Flags) : (rol v p).1 = BitVec.ofNat 8 (v.toNat * 2 + p.c.toNat) := by
  have hc : p.c.toNat < 2 ^ 1 := p.c.toNat_lt
  have sum := Nat.two_pow_add_eq_or_of_lt hc (v.toNat % 128)
  apply BitVec.eq_of_toNat_eq
  simp only [rol, BitVec.toNat_or, BitVec.toNat_shiftLeft, BitVec.toNat_setWidth, BitVec.toNat_ofBool,
    BitVec.toNat_ofNat, Nat.shiftLeft_eq]
  rw [Nat.mod_eq_of_lt (a := p.c.toNat) (by omega), show v.toNat * 2 ^ 1 % 2 ^ 8 = 2 ^ 1 * (v.toNat % 128) by omega,
    ← sum]
  omega

/-- ROR halves the byte and puts the carry on top (R163). -/
theorem ror_result (v : Byte) (p : Flags) : (ror v p).1 = BitVec.ofNat 8 (v.toNat / 2 + p.c.toNat * 128) := by
  have hv : v.toNat / 2 < 2 ^ 7 := by have := v.isLt; omega
  have hc := p.c.toNat_le
  have sum := Nat.two_pow_add_eq_or_of_lt hv p.c.toNat
  apply BitVec.eq_of_toNat_eq
  simp only [ror, BitVec.toNat_or, BitVec.toNat_shiftLeft, BitVec.toNat_ushiftRight, BitVec.toNat_setWidth,
    BitVec.toNat_ofBool, BitVec.toNat_ofNat, Nat.shiftLeft_eq, Nat.shiftRight_eq_div_pow]
  rw [show p.c.toNat % 2 ^ 8 * 2 ^ 7 % 2 ^ 8 = 2 ^ 7 * p.c.toNat by omega, Nat.or_comm, pow_one, ← sum]
  omega

/-! ## What an operation answers -/

/-- `f` answers `res` of the byte and the carry, with the flags `fl` of the byte, that result and the old flags. -/
def Answers (f : Byte → Flags → Byte × Flags) (res : Byte → Bool → Byte) (fl : Byte → Byte → Flags → Flags) : Prop :=
  ∀ v p, f v p = (res v p.c, fl v (res v p.c) p)

/-- The flags of a left shift: C is bit 7 of the byte, Z and N are from the result. -/
def leftFlags (v r : Byte) (p : Flags) : Flags :=
  { p with c := v.getLsbD 7, z := decide (r = 0x00#8), n := r.getLsbD 7 }

/-- The flags of a right shift: C is bit 0 of the byte, Z and N are from the result. -/
def rightFlags (v r : Byte) (p : Flags) : Flags :=
  { p with c := v.getLsbD 0, z := decide (r = 0x00#8), n := r.getLsbD 7 }

/-- The flags of a count: Z and N from the result. -/
def countFlags (_ r : Byte) (p : Flags) : Flags := { p with z := decide (r = 0x00#8), n := r.getLsbD 7 }

theorem asl_answers : Answers asl (fun v _ => v <<< 1) leftFlags := fun _ _ => rfl

theorem lsr_answers : Answers lsr (fun v _ => v >>> 1) rightFlags := fun _ _ => rfl

theorem inc_answers : Answers inc (fun v _ => v + 1#8) countFlags := fun _ _ => rfl

theorem dec_answers : Answers dec (fun v _ => v - 1#8) countFlags := fun _ _ => rfl

theorem rol_answers : Answers rol (fun v c => BitVec.ofNat 8 (v.toNat * 2 + c.toNat)) leftFlags := by
  intro v p
  simp only [← rol_result]
  rfl

theorem ror_answers : Answers ror (fun v c => BitVec.ofNat 8 (v.toNat / 2 + c.toNat * 128)) rightFlags := by
  intro v p
  simp only [← ror_result]
  rfl

/-! ## The instructions -/

/-- What an instruction built on `modifyInstr` does to `A` (R170). -/
theorem modifiesA_of_modifyInstr {i : Instr} {cost : Nat} {f : Byte → Flags → Byte × Flags}
    {res : Byte → Bool → Byte} {fl : Byte → Byte → Flags → Flags} (answers : Answers f res fl) {s : State}
    (run : exec i s = modifyInstr .acc cost f s) : Claims.ModifiesA i cost res fl s := by
  have update : modifyInstr .acc cost f s = complete cost (aluA (fun a _ => f a) 0x00#8 (advance 1 s)) := rfl
  rw [Claims.ModifiesA, run, update, (aluA_update _ _).complete_advance, aluA, answers]
  rfl

/-- What an instruction built on `modifyInstr` does to memory: one read, one write of the same cell (R170). -/
theorem modifies_of_modifyInstr {i : Instr} {m : Operand} {cost : Nat} {f : Byte → Flags → Byte × Flags}
    {res : Byte → Bool → Byte} {fl : Byte → Byte → Flags → Flags} (answers : Answers f res fl) {s : State}
    (hs : s.mem.wf) (run : exec i s = modifyInstr m cost f s) (acc : m ≠ .acc := by exact nofun)
    (imm : ∀ d, m ≠ .imm d := by exact nofun) : Claims.Modifies i m (operandLength m) cost res fl s := by
  refine ⟨_, run.trans (modifyInstr_eq acc imm cost f s), ?_, ?_⟩
  · rw [answers]
    exact ⟨rawRead_memWrite_same hs _ _, fun _ h => rawRead_memWrite_other s h _⟩
  · rw [answers]
    rfl

/-- Settles O50: every form is `modifyInstr` on `A` with the operation of its instruction. -/
theorem accumulatorShifts : Obligations.AccumulatorShifts :=
  fun _ => ⟨modifiesA_of_modifyInstr asl_answers rfl, modifiesA_of_modifyInstr lsr_answers rfl,
    modifiesA_of_modifyInstr rol_answers rfl, modifiesA_of_modifyInstr ror_answers rfl⟩

/-- Settles O51: every form is `modifyInstr` on its operand with the operation of its instruction. -/
theorem memoryShiftsAndCounts : Obligations.MemoryShiftsAndCounts := by
  intro s d w ⟨hmem, _⟩
  have asl_ {i m cost} := @modifies_of_modifyInstr i m cost _ _ _ asl_answers s hmem
  have lsr_ {i m cost} := @modifies_of_modifyInstr i m cost _ _ _ lsr_answers s hmem
  have rol_ {i m cost} := @modifies_of_modifyInstr i m cost _ _ _ rol_answers s hmem
  have ror_ {i m cost} := @modifies_of_modifyInstr i m cost _ _ _ ror_answers s hmem
  have inc_ {i m cost} := @modifies_of_modifyInstr i m cost _ _ _ inc_answers s hmem
  have dec_ {i m cost} := @modifies_of_modifyInstr i m cost _ _ _ dec_answers s hmem
  exact ⟨asl_ rfl, asl_ rfl, asl_ rfl, asl_ rfl, lsr_ rfl, lsr_ rfl, lsr_ rfl, lsr_ rfl,
    rol_ rfl, rol_ rfl, rol_ rfl, rol_ rfl, ror_ rfl, ror_ rfl, ror_ rfl, ror_ rfl,
    inc_ rfl, inc_ rfl, inc_ rfl, inc_ rfl, dec_ rfl, dec_ rfl, dec_ rfl, dec_ rfl⟩

end Sys2Proof.Machine
end

section
/-! The branches (44_control_transfer.md section 1): the condition of each, its target as arithmetic and its cost. -/

namespace Sys2Proof.Machine

/-- The target of a branch: the address of the next instruction plus the offset in two's complement, modulo 0x10000
(R180). -/
theorem branchTarget_eq (a : Word) (d : Byte) : a + 2#16 + sext8 d = BitVec.ofInt 16 (a.toNat + 2 + d.toInt) := by
  rw [BitVec.ofInt_add, BitVec.ofInt_add, BitVec.ofInt_natCast, BitVec.ofNat_toNat, BitVec.setWidth_eq]
  rfl

/-- A branch is taken exactly when its condition on the flags answers true; where it goes and what it costs is R180. -/
theorem IsBranch.branches {d : Byte} {i : Instr} {cond : Flags → Bool} (h : IsBranch d i cond) (s : State) :
    Claims.Branches i (cond s.p = true) d s := by
  rw [Claims.Branches, h.exec_eq, branchInstr_eq, ← branchTarget_eq]
  refine ⟨fun untaken => if_neg untaken, fun taken => ?_⟩
  rw [if_pos taken, ite_not]

/-- Settles O52: every row is a branch of R180 to R188, and the four that ask for a clear flag test its negation. -/
theorem branchInstructions : Obligations.BranchInstructions := by
  intro s d
  have clear {i : Instr} {flag : Flags → Bool} (h : IsBranch d i fun p => !flag p) :
      Claims.Branches i (flag s.p = false) d s :=
    Bool.not_eq_true' _ ▸ h.branches s
  exact ⟨clear .bcc, IsBranch.bcs.branches s, IsBranch.beq.branches s, clear .bne,
    clear .bpl, IsBranch.bmi.branches s, clear .bvc, IsBranch.bvs.branches s⟩

end Sys2Proof.Machine
end

section
/-! The jumps, the call and the return (44_control_transfer.md sections 2 and 3): the operand or a pointer into `PC`, a
16-bit push and a 16-bit pop. -/

namespace Sys2Proof.Machine

/-- `Push16(w)` leaves every cell but its two as it was (R114). -/
theorem rawRead_push16_other {s : State} (w : Word) {a : Word} (high : mirror a ≠ stackAddr s.sp)
    (low : mirror a ≠ stackAddr (s.sp - 1#8)) : rawRead a (push16 w s) = rawRead a s := by
  rw [← mirror_stackAddr] at high low
  calc rawRead a (push16 w s) = rawRead a (push (hiByte w) s) := rawRead_memWrite_other (push (hiByte w) s) low _
    _ = rawRead a s := rawRead_memWrite_other s high _

/-- `Push16(w)` changes only `SP` and the array (R114, R116). -/
theorem push16_frame (w : Word) (s : State) :
    push16 w s = { s with sp := s.sp - 2#8, mem := (push16 w s).mem } := by
  have sp : s.sp - 1#8 - 1#8 = s.sp - 2#8 := by bv_omega
  rw [← sp, push16, push_eq, push_eq]

/-- A data read neither looks at `PC` nor changes it. -/
theorem memRead_setPc (a w : Word) (s : State) :
    memRead a (s.setPc w) = ((memRead a s).1, (memRead a s).2.setPc w) := by
  unfold memRead
  rw [State.setPc_ppu]
  split <;> rfl

/-- Both pointer bytes are read as from the instruction's own address: `PC` is overwritten after the reads (R189). -/
theorem jumpIndirect_setPc (w pc : Word) (s : State) : jumpIndirect w (s.setPc pc) = jumpIndirect w s := by
  simp only [jumpIndirect, memRead_setPc]
  rfl

/-- The indirect jump changes only `PC` and the Timing Unit (R189, 20_memory.md R46). -/
theorem jumpIndirect_eq (w : Word) (s : State) :
    jumpIndirect w s =
      (let lo := memRead w s
       let hi := memRead (word (hiByte w) (loByte w + 1#8)) lo.2
       { s with pc := word hi.1 lo.1, ppu := hi.2.ppu }) := by
  simp only [jumpIndirect]
  rw [memRead_frame _ (memRead w s).2, memRead_frame w s]
  rfl

/-- JSR pushes the address of its own last byte and jumps (R190). -/
theorem exec_jsr {s : State} (hs : s.mem.wf) (w : Word) :
    ∃ t, exec (.jsr w) s = .next t ∧
      rawRead (stackAddr s.sp) t = hiByte (s.pc + 2#16) ∧
      rawRead (stackAddr (s.sp - 1#8)) t = loByte (s.pc + 2#16) ∧
      (∀ a : Word, mirror a ≠ stackAddr s.sp → mirror a ≠ stackAddr (s.sp - 1#8) → rawRead a t = rawRead a s) ∧
      t = { s with sp := s.sp - 2#8, pc := w, wait := 5, mem := t.mem } := by
  have last : (advance 3 s).pc - 1#16 = s.pc + 2#16 := by
    show s.pc + 3#16 - 1#16 = s.pc + 2#16
    bv_omega
  have run : exec (.jsr w) s = .next (((push16 (s.pc + 2#16) (advance 3 s)).setPc w).setWait 5) := by
    rw [← last]
    rfl
  refine ⟨_, run, rawRead_push16_high (s := advance 3 s) hs (s.pc + 2#16),
    rawRead_push16_low (s := advance 3 s) hs (s.pc + 2#16),
    fun _ => rawRead_push16_other (s := advance 3 s) (s.pc + 2#16), ?_⟩
  rw [push16_frame]
  rfl

/-- RTS adds 1 to the popped address (R191). -/
theorem exec_rts (s : State) :
    exec .rts s = .next { s with
      pc := word (rawRead (stackAddr (s.sp + 2#8)) s) (rawRead (stackAddr (s.sp + 1#8)) s) + 1#16
      sp := s.sp + 2#8
      wait := 5 } := by
  have sp : s.sp + 1#8 + 1#8 = s.sp + 2#8 := by bv_omega
  show complete 6 ((pop16 (advance 1 s)).2.setPc ((pop16 (advance 1 s)).1 + 1#16)) = _
  rw [← sp, pop16_eq]
  rfl

/-- Settles O53: the jumps overwrite the advanced `PC`, and the stack operations are a 16-bit push and pop. -/
theorem jumpCallAndReturn : Obligations.JumpCallAndReturn := by
  intro s w hs
  have indirect : exec (.jmpInd w) s = complete 5 (jumpIndirect w s) :=
    congrArg (complete 5) (jumpIndirect_setPc w _ s)
  refine ⟨rfl, ?_, exec_jsr hs w, exec_rts s⟩
  rw [indirect, jumpIndirect_eq]
  rfl

end Sys2Proof.Machine
end

section
/-! BRK and RTI (45_flags_system.md section 3): the entry to an exception as a 16-bit push and a push of the status copy,
and the return from one as the pops that undo them. -/

namespace Sys2Proof.Machine

/-- A 16-bit data read leaves the array (20_memory.md R46). -/
@[simp] theorem memRead16_mem (a : Word) (s : State) : (memRead16 a s).2.mem = s.mem := by
  unfold memRead16
  rw [memRead_frame, memRead_frame]

theorem push16_sp_eq (w : Word) (s : State) : (push16 w s).sp = s.sp - 2#8 := by
  rw [push16_frame]

@[simp] theorem push16_p (w : Word) (s : State) : (push16 w s).p = s.p := by
  rw [push16_frame]

/-- Whatever the vector, an entry stores what its pushes store: the return address, then the status copy with the old
flags (60_exceptions.md R263). -/
theorem enterException_mem (ret : Word) (b : Bool) (vector : Word) (s : State) :
    (enterException ret b vector s).mem = (push (pByte s.p b) (push16 ret s)).mem := by
  unfold enterException
  simp only [State.setPc_mem, memRead16_mem, State.setP_mem, push16_p]

theorem rawRead_enterException (ret : Word) (b : Bool) (vector : Word) (s : State) (a : Word) :
    rawRead a (enterException ret b vector s) = rawRead a (push (pByte s.p b) (push16 ret s)) :=
  rawRead_of_mem_eq (enterException_mem ret b vector s) a

theorem push16_mem_wf {s : State} (hs : s.mem.wf) (w : Word) : (push16 w s).mem.wf := push_mem_wf (push_mem_wf hs _) _

/-- The status copy of an entry goes to the third stack cell (R263). -/
theorem rawRead_enterException_status {s : State} (hs : s.mem.wf) (ret : Word) (b : Bool) (vector : Word) :
    rawRead (stackAddr (s.sp - 2#8)) (enterException ret b vector s) = pByte s.p b := by
  rw [rawRead_enterException, ← push16_sp_eq ret s]
  exact (push_storedAt (push16_mem_wf hs ret) _).1

/-- An entry leaves every cell but the third stack cell as the push of the return address left it. -/
theorem rawRead_enterException_eq_push16 {s : State} (hs : s.mem.wf) (ret : Word) (b : Bool) (vector : Word) {a : Word}
    (status : mirror a ≠ stackAddr (s.sp - 2#8)) :
    rawRead a (enterException ret b vector s) = rawRead a (push16 ret s) := by
  rw [← push16_sp_eq ret s, ← mirror_stackAddr] at status
  rw [rawRead_enterException]
  exact (push_storedAt (push16_mem_wf hs ret) _).2 a status

/-- The high byte of the return address stays in the first stack cell: the status copy goes to another, at every `SP`. -/
theorem rawRead_enterException_high {s : State} (hs : s.mem.wf) (ret : Word) (b : Bool) (vector : Word) :
    rawRead (stackAddr s.sp) (enterException ret b vector s) = hiByte ret := by
  have other : mirror (stackAddr s.sp) ≠ stackAddr (s.sp - 2#8) := by
    rw [mirror_stackAddr, Ne, stackAddr_injective]
    bv_omega
  rw [rawRead_enterException_eq_push16 hs ret b vector other, rawRead_push16_high hs]

/-- The low byte of the return address stays in the second stack cell. -/
theorem rawRead_enterException_low {s : State} (hs : s.mem.wf) (ret : Word) (b : Bool) (vector : Word) :
    rawRead (stackAddr (s.sp - 1#8)) (enterException ret b vector s) = loByte ret := by
  have other : mirror (stackAddr (s.sp - 1#8)) ≠ stackAddr (s.sp - 2#8) := by
    rw [mirror_stackAddr, Ne, stackAddr_injective]
    bv_omega
  rw [rawRead_enterException_eq_push16 hs ret b vector other, rawRead_push16_low hs]

/-- An entry leaves every cell but its three as it was. -/
theorem rawRead_enterException_other {s : State} (hs : s.mem.wf) (ret : Word) (b : Bool) (vector : Word) {a : Word}
    (high : mirror a ≠ stackAddr s.sp) (low : mirror a ≠ stackAddr (s.sp - 1#8))
    (status : mirror a ≠ stackAddr (s.sp - 2#8)) : rawRead a (enterException ret b vector s) = rawRead a s :=
  (rawRead_enterException_eq_push16 hs ret b vector status).trans (rawRead_push16_other ret high low)

/-- An entry through a vector at 0x4000 or above, with its cost set (R263, R267, R268). -/
theorem enterException_enters {s : State} (hs : s.mem.wf) (ret : Word) (b : Bool) {vector : Word}
    (h : 0x4000 ≤ vector.toNat) (h' : vector.toNat < 0xFFFF) :
    Claims.Enters ret b vector s ((enterException ret b vector s).setWait (s.cfg.intCost - 1)) := by
  have sp : s.sp - 1#8 - 1#8 - 1#8 = s.sp - 3#8 := by bv_omega
  refine ⟨rawRead_enterException_high hs ret b vector, rawRead_enterException_low hs ret b vector,
    rawRead_enterException_status hs ret b vector, fun _ => rawRead_enterException_other hs ret b vector, ?_⟩
  rw [enterException_eq ret b h h', ← sp]
  rfl

/-- BRK enters with its own address plus 2 and B set, whatever I is (R208). -/
theorem exec_brk_enters {s : State} (hs : s.mem.wf) :
    ∃ t, exec .brk s = .next t ∧ Claims.Enters (s.pc + 2#16) true irqVector s t :=
  ⟨_, rfl, enterException_enters hs (s.pc + 2#16) true (by decide) (by decide)⟩

/-- RTI overwrites the advanced `PC` with the popped address and adds nothing (R209). -/
theorem exec_rti (s : State) :
    exec .rti s = .next { s with
      p := flagsOfByte (rawRead (stackAddr (s.sp + 1#8)) s)
      pc := word (rawRead (stackAddr (s.sp + 3#8)) s) (rawRead (stackAddr (s.sp + 2#8)) s)
      sp := s.sp + 3#8
      wait := 5 } := by
  have sp2 : s.sp + 1#8 + 1#8 = s.sp + 2#8 := by bv_omega
  have sp3 : s.sp + 2#8 + 1#8 = s.sp + 3#8 := by bv_omega
  show complete 6 (returnFromException (advance 1 s)) = _
  rw [← sp3, ← sp2, returnFromException_eq]
  rfl

/-- Settles O55: BRK is an entry through the IRQ vector, RTI the return, whose flags are `flagsOfByte`. -/
theorem breakEntersAndRtiReturns : Obligations.BreakEntersAndRtiReturns :=
  fun s hs => ⟨exec_brk_enters hs, exec_rti s⟩

end Sys2Proof.Machine
end

section
/-! The mask register and the frame parity (50_timing_unit.md R234, R240): `mask` is only stored and `odd` only flipped.
Every operation commutes with a change of the two, save that a write to `0x2001` replaces `mask`, the last tick of a
frame flips `odd`, and the Timing Unit reset zeroes both. -/

namespace Sys2Proof.Machine

open Sys2Proof.Claims (withMaskOdd)

/-- `F` completes in every state, and takes states that differ only in `mask` and `odd` to states that differ at most in
them. -/
def MaskOddUnread (F : State → Host.Outcome State Fault Refusal) : Prop :=
  ∀ s mask odd, ∃ t mask' odd', F s = .next t ∧ F (withMaskOdd mask odd s) = .next (withMaskOdd mask' odd' t)

section
variable (mask : Byte) (odd : Bool) (s : State)

/-! ## The operations of the Scheduler -/

theorem advance_withMaskOdd (len : Nat) : advance len (withMaskOdd mask odd s) = withMaskOdd mask odd (advance len s) :=
  rfl

theorem RegisterUpdate.commutes_withMaskOdd {f : State → State} (h : RegisterUpdate f) :
    f (withMaskOdd mask odd s) = withMaskOdd mask odd (f s) :=
  calc f (withMaskOdd mask odd s) = (f s).onto (withMaskOdd mask odd s) := h.onto s (withMaskOdd mask odd s)
    _ = withMaskOdd mask odd ((f s).onto s) := rfl
    _ = withMaskOdd mask odd (f s) := by rw [← h.onto s s]; rfl

theorem dataRead_withMaskOdd :
    dataRead (withMaskOdd mask odd s).ppu =
      ((dataRead s.ppu).1, { (dataRead s.ppu).2 with mask := mask, odd := odd }) := by
  have ptr : (withMaskOdd mask odd s).ppu.ptr = s.ppu.ptr := rfl
  unfold dataRead
  rw [ptr]
  split_ifs <;> rfl

theorem windowRead_withMaskOdd (m : Word) :
    windowRead m (withMaskOdd mask odd s).ppu =
      (windowRead m s.ppu).map fun r => (r.1, { r.2 with mask := mask, odd := odd }) := by
  unfold windowRead
  rw [dataRead_withMaskOdd]
  split_ifs <;> rfl

theorem memRead_withMaskOdd (w : Word) :
    memRead w (withMaskOdd mask odd s) = ((memRead w s).1, withMaskOdd mask odd (memRead w s).2) := by
  unfold memRead
  rw [windowRead_withMaskOdd]
  cases windowRead (mirror w) s.ppu <;> rfl

/-- A data write carries the parity, and the mask unless it replaces it (R240). -/
theorem memWrite_withMaskOdd (w : Word) (v : Byte) :
    ∃ mask', memWrite w v (withMaskOdd mask odd s) = withMaskOdd mask' odd (memWrite w v s) := by
  simp only [memWrite_eq, windowWrite, addrWrite, withMaskOdd]
  split_ifs
  · exact ⟨mask, rfl⟩
  · exact ⟨v, rfl⟩
  all_goals exact ⟨mask, rfl⟩

theorem push_withMaskOdd (v : Byte) : push v (withMaskOdd mask odd s) = withMaskOdd mask odd (push v s) := by
  rw [push_eq, push_eq]
  rfl

theorem pop_withMaskOdd : pop (withMaskOdd mask odd s) = ((pop s).1, withMaskOdd mask odd (pop s).2) := by
  rw [pop_eq, pop_eq]
  rfl

theorem push16_withMaskOdd (w : Word) : push16 w (withMaskOdd mask odd s) = withMaskOdd mask odd (push16 w s) := by
  simp only [push16, push_withMaskOdd]

theorem enterException_withMaskOdd (ret : Word) (b : Bool) (vector : Word) :
    enterException ret b vector (withMaskOdd mask odd s) = withMaskOdd mask odd (enterException ret b vector s) := by
  have setP (p : Flags) (t : State) : (withMaskOdd mask odd t).setP p = withMaskOdd mask odd (t.setP p) := rfl
  have flags (t : State) : (withMaskOdd mask odd t).p = t.p := rfl
  simp only [enterException, memRead16, push16_withMaskOdd, push_withMaskOdd, flags, setP, memRead_withMaskOdd]
  rfl

theorem resolve_withMaskOdd (m : Operand) : resolve m (withMaskOdd mask odd s) = resolve m s := by
  have pointer (q : Byte) : zeroPagePointer q (withMaskOdd mask odd s) = zeroPagePointer q s := by
    simp only [zeroPagePointer, memRead_withMaskOdd]
  cases m <;> simp only [resolve, pointer] <;> rfl

theorem readOperand_withMaskOdd (m : Operand) :
    readOperand m (withMaskOdd mask odd s) = ((readOperand m s).1, withMaskOdd mask odd (readOperand m s).2) := by
  cases m with
  | acc => rfl
  | imm _ => rfl
  | _ => simp only [readOperand, resolve_withMaskOdd, memRead_withMaskOdd]

theorem jumpIndirect_withMaskOdd (w : Word) :
    jumpIndirect w (withMaskOdd mask odd s) = withMaskOdd mask odd (jumpIndirect w s) := by
  simp only [jumpIndirect, memRead_withMaskOdd]
  rfl

/-- An implied instruction whose update commutes with the change does so too. -/
theorem impliedInstr_withMaskOdd {f : State → State} (cost : Nat)
    (h : f (withMaskOdd mask odd (advance 1 s)) = withMaskOdd mask odd (f (advance 1 s))) :
    impliedInstr cost f (withMaskOdd mask odd s) =
      .next (withMaskOdd mask odd ((f (advance 1 s)).setWait (cost - 1))) := by
  rw [impliedInstr, advance_withMaskOdd, h]
  rfl

end

/-! ## Instructions and the Scheduler's tick -/

theorem exec_maskOddUnread (i : Instr) : MaskOddUnread (exec i) := by
  intro s mask odd
  cases instrShape i with
  | read update run =>
    refine ⟨_, mask, odd, run s, (run _).trans ?_⟩
    simp only [readInstr, complete, crossBonus, advance_withMaskOdd, readOperand_withMaskOdd, resolve_withMaskOdd,
      (update.update _).commutes_withMaskOdd]
    rfl
  | @store _ m cost v run =>
    obtain ⟨mask', written⟩ :=
      memWrite_withMaskOdd mask odd (advance (operandLength m) s) (resolve m s).1 (v s.a s.x s.y)
    refine ⟨_, mask', odd, (run s).trans (storeInstr_eq ..), (run _).trans ?_⟩
    rw [storeInstr_eq, resolve_withMaskOdd]
    exact congrArg (complete cost) written
  | @modify _ m cost f _ run acc imm =>
    let r := memRead (resolve m s).1 s
    obtain ⟨mask', written⟩ := memWrite_withMaskOdd mask odd
      { s with pc := s.pc + BitVec.ofNat 16 (operandLength m), p := (f r.1 s.p).2, ppu := r.2.ppu }
      (resolve m s).1 (f r.1 s.p).1
    refine ⟨_, mask', odd, (run s).trans (modifyInstr_eq acc imm ..), (run _).trans ?_⟩
    rw [modifyInstr_eq acc imm, resolve_withMaskOdd, memRead_withMaskOdd]
    exact congrArg (complete cost) written
  | registers update _ run =>
    exact ⟨_, mask, odd, run s, (run _).trans (impliedInstr_withMaskOdd _ _ s _ (update.commutes_withMaskOdd ..))⟩
  | push v _ run =>
    exact ⟨_, mask, odd, run s, (run _).trans (impliedInstr_withMaskOdd _ _ s _ (push_withMaskOdd ..))⟩
  | pull update _ run =>
    refine ⟨_, mask, odd, run s, (run _).trans (impliedInstr_withMaskOdd _ _ s _ ?_)⟩
    rw [pop_withMaskOdd]
    exact (update _).commutes_withMaskOdd ..
  | @branch _ d cond h =>
    rw [h.exec_eq, h.exec_eq, branchInstr_eq, branchInstr_eq]
    by_cases taken : cond s.p = true
    · exact ⟨_, mask, odd, if_pos taken, if_pos taken⟩
    · exact ⟨_, mask, odd, if_neg taken, if_neg taken⟩
  | jmpAbs w => exact ⟨_, mask, odd, rfl, rfl⟩
  | jmpInd w => exact ⟨_, mask, odd, rfl, congrArg (complete 5) (jumpIndirect_withMaskOdd mask odd (advance 3 s) w)⟩
  | jsr w =>
    exact ⟨_, mask, odd, rfl, congrArg (fun t => complete 6 (State.setPc t w))
      (push16_withMaskOdd mask odd (advance 3 s) _)⟩
  | rts => exact ⟨_, mask, odd, exec_rts s, exec_rts _⟩
  | brk =>
    exact ⟨_, mask, odd, rfl, congrArg (complete s.cfg.intCost)
      (enterException_withMaskOdd mask odd s (s.pc + 2#16) true irqVector)⟩
  | rti => exact ⟨_, mask, odd, exec_rti s, exec_rti _⟩

theorem executeOne_maskOddUnread : MaskOddUnread executeOne := by
  intro s mask odd
  have bytes : fetchBytes (withMaskOdd mask odd s) = fetchBytes s := rfl
  have cfg : (withMaskOdd mask odd s).cfg = s.cfg := rfl
  unfold executeOne
  rw [bytes, cfg]
  rcases decode s.cfg.unofficial (fetchBytes s) with e | ⟨i, rest⟩
  · exact ⟨_, mask, odd, rfl, rfl⟩
  · exact exec_maskOddUnread i s mask odd

theorem cpuTick_maskOddUnread (irq : Bool) : MaskOddUnread (cpuTick irq) := by
  intro s mask odd
  have entry (ret vector : Word) (t : State) := enterException_withMaskOdd mask odd t ret false vector
  have halted : (withMaskOdd mask odd s).halted = s.halted := rfl
  have wait : (withMaskOdd mask odd s).wait = s.wait := rfl
  have pending : (withMaskOdd mask odd s).nmiPending = s.nmiPending := rfl
  have flags : (withMaskOdd mask odd s).p = s.p := rfl
  unfold cpuTick
  rw [halted, wait, pending, flags]
  split_ifs
  · exact ⟨_, mask, odd, rfl, rfl⟩
  · exact ⟨_, mask, odd, rfl, rfl⟩
  · exact ⟨_, mask, odd, rfl, congrArg (complete s.cfg.intCost) (entry s.pc nmiVector (s.setNmi false))⟩
  · exact ⟨_, mask, odd, rfl, congrArg (complete s.cfg.intCost) (entry s.pc irqVector s)⟩
  · exact executeOne_maskOddUnread s mask odd

/-! ## The Timing Unit's ticks -/

/-- The counters carry `mask`, and flip whatever parity there is (R233). -/
theorem ppuTick_withMaskOdd (mask : Byte) (odd : Bool) (s : State) :
    ∃ odd', ppuTick (withMaskOdd mask odd s) = withMaskOdd mask odd' (ppuTick s) := by
  have event : vblankEvent (withMaskOdd mask odd s) = withMaskOdd mask odd (vblankEvent s) := by
    unfold vblankEvent withMaskOdd
    split_ifs <;> rfl
  rw [ppuTick, ppuTick, event]
  unfold advanceCounters withMaskOdd
  split_ifs
  · exact ⟨odd, rfl⟩
  · exact ⟨odd, rfl⟩
  · exact ⟨!odd, rfl⟩

theorem ppuTicks_withMaskOdd (n : Nat) (mask : Byte) (odd : Bool) (s : State) :
    ∃ odd', ppuTicks n (withMaskOdd mask odd s) = withMaskOdd mask odd' (ppuTicks n s) := by
  induction n generalizing odd s with
  | zero => exact ⟨odd, rfl⟩
  | succ n ih =>
    obtain ⟨odd', tick⟩ := ppuTick_withMaskOdd mask odd s
    rw [ppuTicks_succ, ppuTicks_succ, tick]
    exact ih odd' (ppuTick s)

theorem ppuPhase_withMaskOdd (mask : Byte) (odd : Bool) (s : State) :
    ∃ odd', ppuPhase (withMaskOdd mask odd s) = withMaskOdd mask odd' (ppuPhase s) := by
  have halted : (withMaskOdd mask odd s).halted = s.halted := rfl
  unfold ppuPhase
  rw [halted]
  split_ifs
  · exact ⟨odd, rfl⟩
  · exact ppuTicks_withMaskOdd s.cfg.ppuPerCpu mask odd s

/-! ## The host's calls -/

theorem systemTick_maskOddUnread (irq : Bool) : MaskOddUnread (systemTick irq) := by
  intro s mask odd
  have halted : (withMaskOdd mask odd s).halted = s.halted := rfl
  unfold systemTick
  rw [halted]
  split_ifs
  · exact ⟨s, mask, odd, rfl, rfl⟩
  · obtain ⟨t, mask', odd', run, run'⟩ := cpuTick_maskOddUnread irq s mask odd
    obtain ⟨odd'', phase⟩ := ppuPhase_withMaskOdd mask' odd' t
    rw [run, run']
    exact ⟨_, mask', odd'', rfl, congrArg _ phase⟩

theorem zeroCells_withMaskOdd (addrs : List Word) (mask : Byte) (odd : Bool) (s : State) :
    zeroCells addrs (withMaskOdd mask odd s) = withMaskOdd mask odd (zeroCells addrs s) := by
  induction addrs generalizing s with
  | nil => rfl
  | cons a rest ih => exact ih (rawWrite a 0x00#8 s)

theorem runCall_maskOddUnread (c : HostCall) : MaskOddUnread (runCall c) := by
  intro s mask odd
  cases c with
  | tick irq => exact systemTick_maskOddUnread irq s mask odd
  | cpuReset =>
    refine ⟨_, mask, odd, rfl, congrArg Host.Outcome.next ?_⟩
    have cfg : (withMaskOdd mask odd s).cfg = s.cfg := rfl
    rw [cpuReset, cfg, zeroCells_withMaskOdd]
    rfl
  | ppuReset => exact ⟨_, 0x00#8, false, rfl, rfl⟩

theorem step_maskOddUnread : MaskOddUnread step := by
  intro s mask odd
  have host : (withMaskOdd mask odd s).host = s.host := rfl
  unfold step nextCall
  rw [host]
  cases s.host with
  | nil => exact systemTick_maskOddUnread false s mask odd
  | cons c rest => exact runCall_maskOddUnread c { s with host := rest } mask odd

/-- Settles O24: a step is made of operations that commute with a change of the two, and only the data write of R240
sets `mask`. -/
theorem maskAndParityAreNeverRead : Obligations.MaskAndParityAreNeverRead := by
  refine ⟨fun s t mask odd h => ?_, fun a v s h => ?_⟩
  · obtain ⟨u, mask', odd', run, run'⟩ := step_maskOddUnread s mask odd
    cases h.symm.trans run
    exact ⟨mask', odd', run'⟩
  · rw [memWrite_eq, h]
    rfl

end Sys2Proof.Machine
end

section
/-! The Timing Unit's ticks (50_timing_unit.md R231 to R238): the two counters as one position in the frame of 89,342
dots, and the vblank events by that position. -/

namespace Sys2Proof.Machine

open Sys2Proof.Claims (dot)

/-! ## The position in the frame -/

theorem dot_lt (u : TimingUnit) : dot u < 89342 := by
  have hc := u.cycle.isLt
  have hl := u.scanline.isLt
  unfold dot
  omega

theorem cycle_eq_dot_mod (u : TimingUnit) : u.cycle.val = dot u % 341 := by
  have hc := u.cycle.isLt
  unfold dot
  omega

theorem scanline_eq_dot_div (u : TimingUnit) : u.scanline.val = dot u / 341 := by
  have hc := u.cycle.isLt
  unfold dot
  omega

/-- The counters are one counter of dots (R233). -/
theorem advanceCounters_dot (u : TimingUnit) : dot (advanceCounters u) = (dot u + 1) % 89342 := by
  have hl := u.scanline.isLt
  unfold dot
  rcases advanceCounters_cases u with ⟨hc, ec, el, -⟩ | ⟨hc, hl', ec, el, -⟩ | ⟨hc, hl', ec, el, -⟩
  · have line := congrArg Fin.val el
    omega
  · omega
  · omega

/-- The parity flips at the last dot of the frame and at no other (R234). -/
theorem advanceCounters_odd (u : TimingUnit) :
    (advanceCounters u).odd = (u.odd ^^ decide (dot u = 89341)) := by
  have hl := u.scanline.isLt
  unfold dot
  rcases advanceCounters_cases u with ⟨hc, -, -, eo⟩ | ⟨hc, hl', -, -, eo⟩ | ⟨hc, hl', -, -, eo⟩
  · rw [eo, decide_eq_false (by omega), Bool.xor_false]
  · rw [eo, decide_eq_false (by omega), Bool.xor_false]
  · rw [eo, decide_eq_true (by omega), Bool.xor_true]

section
variable (s : State)

@[simp] theorem ppuTick_nmiPending_eq : (ppuTick s).nmiPending = (vblankEvent s).nmiPending := by rw [ppuTick_frame]
@[simp] theorem ppuTick_status : (ppuTick s).ppu.status = (vblankEvent s).ppu.status := by rw [ppuTick_frame]

theorem ppuTick_dot : dot (ppuTick s).ppu = (dot s.ppu + 1) % 89342 := by
  rw [ppuTick_frame]
  exact advanceCounters_dot s.ppu

theorem ppuTick_odd : (ppuTick s).ppu.odd = (s.ppu.odd ^^ decide (dot s.ppu = 89341)) := by
  rw [ppuTick_frame]
  exact advanceCounters_odd s.ppu

@[simp] theorem ppuTicks_cfg (n : Nat) : (ppuTicks n s).cfg = s.cfg := by rw [ppuTicks_frame]
@[simp] theorem ppuTicks_ctrl (n : Nat) : (ppuTicks n s).ppu.ctrl = s.ppu.ctrl := by rw [ppuTicks_frame]

/-- Any number of ticks moves the position by as many dots. -/
theorem ppuTicks_dot (n : Nat) : dot (ppuTicks n s).ppu = (dot s.ppu + n) % 89342 := by
  induction n with
  | zero => rw [ppuTicks, Nat.add_zero, Nat.mod_eq_of_lt (dot_lt s.ppu)]
  | succ n ih => rw [ppuTicks_succ', ppuTick_dot, ih, Nat.mod_add_mod, Nat.add_assoc]

/-- Any number of ticks flips the parity once for each frame it completes. -/
theorem ppuTicks_odd (n : Nat) :
    (ppuTicks n s).ppu.odd = (s.ppu.odd ^^ decide ((dot s.ppu + n) / 89342 % 2 = 1)) := by
  induction n with
  | zero =>
    have hd := dot_lt s.ppu
    rw [decide_eq_false (by omega), Bool.xor_false]
    rfl
  | succ n ih =>
    rw [ppuTicks_succ', ppuTick_odd, ih, ppuTicks_dot, Bool.xor_assoc]
    congr 1
    by_cases last : (dot s.ppu + n) % 89342 = 89341
    · have frames : (dot s.ppu + (n + 1)) / 89342 = (dot s.ppu + n) / 89342 + 1 := by omega
      rw [decide_eq_true last, Bool.xor_true, frames, ← decide_not, decide_eq_decide]
      omega
    · have frames : (dot s.ppu + (n + 1)) / 89342 = (dot s.ppu + n) / 89342 := by omega
      rw [decide_eq_false last, Bool.xor_false, frames]

end

theorem dot_of_origin {u : TimingUnit} (hc : u.cycle = 0) (hl : u.scanline = 0) : dot u = 0 := by
  rw [dot, hc, hl]
  rfl

/-- Settles O20, from the position: both counters are read off it, and the completed frames give the parity. -/
theorem countersAfterAnyNumberOfTicks : Obligations.CountersAfterAnyNumberOfTicks := by
  intro n s hc hl
  have position := ppuTicks_dot s n
  have parity := ppuTicks_odd s n
  rw [dot_of_origin hc hl, Nat.zero_add] at position parity
  rw [cycle_eq_dot_mod, scanline_eq_dot_div, position]
  exact ⟨by omega, by omega, parity⟩

/-! ## The vblank events -/

section
variable {s : State}

/-- The event of line 241 (R236, R237). -/
theorem vblankEvent_set (hl : s.ppu.scanline = vblLine) (hc : s.ppu.cycle = s.cfg.vblDot) :
    vblankEvent s = vblankSet s := by
  rw [vblankEvent, if_pos hc, if_pos hl]

/-- The event of line 261 (R238). -/
theorem vblankEvent_clear (hl : s.ppu.scanline = preLine) (hc : s.ppu.cycle = s.cfg.vblDot) :
    vblankEvent s = vblankClear s := by
  have other : s.ppu.scanline ≠ vblLine := by rw [hl]; decide
  rw [vblankEvent, if_pos hc, if_neg other, if_pos hl]

/-- Every other dot has no event (R231). -/
theorem vblankEvent_none (hset : ¬(s.ppu.scanline = vblLine ∧ s.ppu.cycle = s.cfg.vblDot))
    (hclear : ¬(s.ppu.scanline = preLine ∧ s.ppu.cycle = s.cfg.vblDot)) : vblankEvent s = s := by
  rcases vblankEvent_cases s with ⟨hc, hl, -⟩ | ⟨hc, hl, -⟩ | ⟨-, e⟩
  · exact absurd ⟨hl, hc⟩ hset
  · exact absurd ⟨hl, hc⟩ hclear
  · exact e

end

/-- Settles O22: the event of the dot, and the frame, position and parity of a tick. -/
theorem timingUnitTickEffect : Obligations.TimingUnitTickEffect := by
  intro s
  rw [ppuTick_status, ppuTick_nmiPending_eq]
  refine ⟨fun hl hc => ?_, fun hl hc => ?_, fun hset hclear => ?_, ?_, ppuTick_dot s, ppuTick_odd s⟩
  · rw [vblankEvent_set hl hc]
    exact ⟨rfl, rfl⟩
  · rw [vblankEvent_clear hl hc]
    exact ⟨rfl, rfl⟩
  · rw [vblankEvent_none hset hclear]
    exact ⟨rfl, rfl⟩
  · rw [ppuTick_frame]

/-- A line and dot as the position they make. -/
theorem scanline_cycle_eq_iff (u : TimingUnit) (line : Fin 262) (c : Fin 341) :
    (u.scanline = line ∧ u.cycle = c) ↔ dot u = line.val * 341 + c.val := by
  have hc := u.cycle.isLt
  have hc' := c.isLt
  rw [Fin.ext_iff, Fin.ext_iff, dot]
  omega

/-- With the events at dot 0 of their lines, the status byte and the latch after a tick, by the position (R235). -/
theorem ppuTick_events_at_zero {s : State} (hdot : s.cfg.vblDot = 0) :
    (dot s.ppu = 82181 ∧ (ppuTick s).ppu.status = s.ppu.status ||| 0x80#8 ∧
      (ppuTick s).nmiPending = (s.nmiPending || s.ppu.ctrl.getLsbD 7)) ∨
    (dot s.ppu = 89001 ∧ (ppuTick s).ppu.status = s.ppu.status &&& 0x1F#8 ∧
      (ppuTick s).nmiPending = s.nmiPending) ∨
    (dot s.ppu ≠ 82181 ∧ dot s.ppu ≠ 89001 ∧ (ppuTick s).ppu.status = s.ppu.status ∧
      (ppuTick s).nmiPending = s.nmiPending) := by
  have atSet := scanline_cycle_eq_iff s.ppu vblLine s.cfg.vblDot
  have atClear := scanline_cycle_eq_iff s.ppu preLine s.cfg.vblDot
  have setDot : vblLine.val * 341 + s.cfg.vblDot.val = 82181 := by rw [hdot]; rfl
  have clearDot : preLine.val * 341 + s.cfg.vblDot.val = 89001 := by rw [hdot]; rfl
  rw [setDot] at atSet
  rw [clearDot] at atClear
  rw [ppuTick_status, ppuTick_nmiPending_eq]
  by_cases hset : dot s.ppu = 82181
  · obtain ⟨hl, hc⟩ := atSet.mpr hset
    rw [vblankEvent_set hl hc]
    exact .inl ⟨hset, rfl, rfl⟩
  by_cases hclear : dot s.ppu = 89001
  · obtain ⟨hl, hc⟩ := atClear.mpr hclear
    rw [vblankEvent_clear hl hc]
    exact .inr (.inl ⟨hclear, rfl, rfl⟩)
  · rw [vblankEvent_none (atSet.not.mpr hset) (atClear.not.mpr hclear)]
    exact .inr (.inr ⟨hset, hclear, rfl, rfl⟩)

/-- Settles O21, by the last tick: only those at 82,181 and 89,001 dots change the status byte, and only the former
the latch. -/
theorem vblankFlagOverAnyNumberOfTicks : Obligations.VblankFlagOverAnyNumberOfTicks := by
  intro n s hc hl hstatus hdot
  induction n with
  | zero => exact ⟨hstatus, by simp [ppuTicks]⟩
  | succ n ih =>
    obtain ⟨status, latch⟩ := ih
    have position := ppuTicks_dot s n
    rw [dot_of_origin hc hl, Nat.zero_add] at position
    rw [ppuTicks_succ']
    rcases ppuTick_events_at_zero ((congrArg Config.vblDot (ppuTicks_cfg s n)).trans hdot) with
      ⟨hd, es, en⟩ | ⟨hd, es, en⟩ | ⟨hset, hclear, es, en⟩
    · rw [position] at hd
      have reached : 82182 ≤ n + 1 := by omega
      rw [es, en, status, latch, ppuTicks_ctrl, if_neg (by omega), if_pos (by omega), decide_eq_true reached]
      exact ⟨rfl, by cases s.ppu.ctrl.getLsbD 7 <;> simp⟩
    · rw [position] at hd
      have past : 82182 ≤ n + 1 ↔ 82182 ≤ n := by omega
      rw [es, en, status, latch, if_pos (by omega), if_neg (by omega), decide_eq_decide.mpr past]
      exact ⟨rfl, rfl⟩
    · rw [position] at hset hclear
      have inside : (82182 ≤ (n + 1) % 89342 ∧ (n + 1) % 89342 ≤ 89001) ↔
          (82182 ≤ n % 89342 ∧ n % 89342 ≤ 89001) := by omega
      have past : 82182 ≤ n + 1 ↔ 82182 ≤ n := by omega
      simp only [es, en, status, latch, inside, past, and_self]

end Sys2Proof.Machine
end

section
/-! The exceptions (60_exceptions.md sections 2 and 4): the two entries taken at a boundary, the return that undoes an
entry, the halt on a byte that is no opcode, and what a halted block still does. -/

namespace Sys2Proof.Machine

/-! ## Interrupt entries -/

/-- NMI is examined first, whatever the line and I are (R271). -/
theorem cpuTick_of_nmi (irq : Bool) {s : State} (hr : s.halted = none) (hw : s.wait = 0) (hn : s.nmiPending = true) :
    cpuTick irq s = .next (nmiEntry s) := by
  simp [cpuTick, hr, hw, hn]

theorem cpuTick_of_irq {s : State} (hr : s.halted = none) (hw : s.wait = 0) (hn : s.nmiPending = false)
    (hi : s.p.i = false) : cpuTick true s = .next (irqEntry s) := by
  simp [cpuTick, hr, hw, hn, hi]

/-- A Scheduler tick that enters an exception leaves the block running, so the Timing Unit ticks after it (R298). -/
theorem step_of_enters {s u t : State} {irq b : Bool} {ret vector : Word} (hi : s.nextIrq = some irq)
    (hr : s.halted = none) (tick : cpuTick irq s.afterCall = .next t) (enters : Claims.Enters ret b vector u t)
    (halted : u.halted = s.halted) (cfg : u.cfg = s.cfg) : step s = .next (ppuTicks s.cfg.ppuPerCpu t) := by
  obtain ⟨-, -, -, -, frame⟩ := enters
  have running : t.halted = none := by rw [frame, ← hr, ← halted]
  have params : t.cfg = s.cfg := by rw [frame, ← cfg]
  rw [step_of_cpuTick hi hr tick, ppuPhase_of_running running, params]

/-- An NMI's entry, from the state with the latch clear (R267). -/
theorem nmiEntry_enters {s : State} (hs : s.mem.wf) :
    Claims.Enters s.pc false nmiVector (s.setNmi false) (nmiEntry s) :=
  enterException_enters (s := s.setNmi false) hs s.pc false (by decide) (by decide)

theorem irqEntry_enters {s : State} (hs : s.mem.wf) : Claims.Enters s.pc false irqVector s (irqEntry s) :=
  enterException_enters hs s.pc false (by decide) (by decide)

/-- Settles O10: NMI comes before the line and I. -/
theorem nmiEntryAtTheBoundary : Obligations.NmiEntryAtTheBoundary := by
  rintro s irq ⟨hs, -⟩ hr hw hn hi
  have enters := nmiEntry_enters (s := s.afterCall) hs
  exact ⟨_, enters, step_of_enters hi hr (cpuTick_of_nmi irq hr hw hn) enters rfl rfl⟩

/-- Settles O11: with no NMI pending and I clear, the line alone decides. -/
theorem irqEntryAtTheBoundary : Obligations.IrqEntryAtTheBoundary := by
  rintro s ⟨hs, -⟩ hr hw hn hirq hi
  have enters := irqEntry_enters (s := s.afterCall) hs
  exact ⟨_, enters, step_of_enters hirq hr (cpuTick_of_irq hr hw hn hi) enters rfl rfl⟩

/-! ## Return from an entry -/

/-- A 16-bit data read changes only the Timing Unit (20_memory.md R48). -/
theorem memRead16_frame (a : Word) (s : State) : (memRead16 a s).2 = { s with ppu := (memRead16 a s).2.ppu } := by
  unfold memRead16
  rw [memRead_frame, memRead_frame]

/-- Whatever the vector, an entry changes no register but `SP`, I and `PC`: the vector's bytes may lie in the register
window, so the Timing Unit is left open. -/
theorem enterException_frame (ret : Word) (b : Bool) (vector : Word) (s : State) :
    enterException ret b vector s = { s with
      sp := s.sp - 3#8
      p := { s.p with i := true }
      pc := (enterException ret b vector s).pc
      mem := (enterException ret b vector s).mem
      ppu := (enterException ret b vector s).ppu } := by
  have sp : s.sp - 2#8 - 1#8 = s.sp - 3#8 := by bv_omega
  unfold enterException
  dsimp only
  rw [memRead16_frame, push_eq, push16_frame, ← sp]
  rfl

/-- The return pops the three bytes that the entry pushed, in the other order (R272, R273). -/
theorem returnFromException_enterException {s : State} (hs : s.mem.wf) (ret : Word) (b : Bool) (vector : Word) :
    returnFromException (enterException ret b vector s) =
      { enterException ret b vector s with pc := ret, p := s.p, sp := s.sp } := by
  have sp : (enterException ret b vector s).sp = s.sp - 3#8 := by rw [enterException_frame]
  have sp1 : s.sp - 3#8 + 1#8 = s.sp - 2#8 := by bv_omega
  have sp2 : s.sp - 2#8 + 1#8 = s.sp - 1#8 := by bv_omega
  rw [returnFromException_eq, sp, sp1, sp2, BitVec.sub_add_cancel, rawRead_enterException_status hs,
    rawRead_enterException_low hs, rawRead_enterException_high hs, flagsOfByte_pByte, word_halves]

/-- Settles O12: the entry left `A`, `X`, `Y` and the other cells alone, and the return writes no cell. -/
theorem returnUndoesAnEntry : Obligations.ReturnUndoesAnEntry := by
  intro s ret vector b hs
  have registers : (enterException ret b vector s).a = s.a ∧ (enterException ret b vector s).x = s.x ∧
      (enterException ret b vector s).y = s.y := by
    rw [enterException_frame]
    exact ⟨rfl, rfl, rfl⟩
  obtain ⟨a, x, y⟩ := registers
  rw [returnFromException_enterException hs]
  dsimp only
  exact ⟨rfl, rfl, rfl, a, x, y, fun _ => rawRead_enterException_other hs ret b vector⟩

/-! ## Every step answers a next state -/

theorem systemTick_next (irq : Bool) (s : State) : ∃ t, systemTick irq s = .next t := by
  obtain ⟨t, tick, -⟩ := cpuTick_frame irq s
  rcases systemTick_cases irq s with ⟨-, e⟩ | ⟨-, _, -, e⟩ | ⟨-, _, refused, -⟩
  · exact ⟨_, e⟩
  · exact ⟨_, e⟩
  · exact nomatch tick.symm.trans refused

theorem step_next (s : State) : ∃ t, step s = .next t := by
  rcases step_cases s with ⟨irq, -, e⟩ | ⟨_, -, -, e⟩ | ⟨_, -, -, e⟩
  · exact e ▸ systemTick_next irq s.afterCall
  · exact ⟨_, e⟩
  · exact ⟨_, e⟩

/-- Settles O13: a tick's Scheduler part always completes, the resets are functions, and boot only tests its image. -/
theorem stepAlwaysAnswersANextState : Obligations.StepAlwaysAnswersANextState := by
  refine ⟨step_next, fun prg chr mem0 vram0 cfg calls => ?_⟩
  rcases boot_cases prg chr mem0 vram0 cfg calls with ⟨fits, e⟩ | ⟨unfit, e⟩
  · exact ⟨fun refused => (nomatch e.symm.trans refused), fun unfit => absurd fits unfit⟩
  · exact ⟨fun _ => unfit, fun _ => e⟩

/-! ## The halt -/

/-- A row of an undefined byte is optional, and the byte is one of the seven that have one (30_encoding.md R78, R79). -/
theorem opRow_of_undefined : ∀ op ∈ Claims.undefinedBytes, ∀ row ∈ opRow op,
    row.optional = true ∧ op ∈ Claims.optionalBytes := by
  decide

/-- The decoder rejects an undefined byte whose option is not enabled, whatever follows it (R83). -/
theorem decode_of_undefined {u : Bool} {op : Byte} (h : op ∈ Claims.undefinedBytes)
    (hu : u = true → op ∉ Claims.optionalBytes) (rest : List Byte) :
    decode u (op :: rest) = .error (.unknownOpcode op) := by
  cases hrow : opRow op with
  | none => simp [decode, hrow]
  | some row =>
    obtain ⟨optional, listed⟩ := opRow_of_undefined op h row hrow
    have disabled : u = false := Bool.eq_false_iff.mpr fun enabled => hu enabled listed
    simp [decode, hrow, optional, disabled]

theorem executeOne_of_undefined {s : State} (h : fetch s.pc s ∈ Claims.undefinedBytes)
    (hu : s.cfg.unofficial = true → fetch s.pc s ∉ Claims.optionalBytes) :
    executeOne s = .next (raiseUnknownOpcode (fetch s.pc s) s) := by
  rw [executeOne, fetchBytes, decode_of_undefined h hu]

/-- Settles O7: the Scheduler tick raises the fault, and a block that has just halted ticks the Timing Unit no more. -/
theorem unknownOpcodeHaltsTheBlock : Obligations.UnknownOpcodeHaltsTheBlock := by
  intro s hx h hu
  obtain ⟨irq, hi, tick⟩ := hx.exists_cpuTick
  exact step_of_cpuTick hi hx.1 (tick.trans (executeOne_of_undefined (s := s.afterCall) h hu))

/-! ## The halted block -/

/-- A step of a halted block is one of the two resets, or takes the call off the list and does nothing else (R262). -/
theorem step_of_halted {s t : State} (hs : s.halted ≠ none) (h : step s = .next t) :
    (s.host.head? = some .cpuReset ∧ s.nextIrq = none ∧ t = cpuReset s.afterCall) ∨
    (s.host.head? = some .ppuReset ∧ s.nextIrq = none ∧ t = ppuReset s.afterCall) ∨
    (s.nextIrq ≠ none ∧ t = s.afterCall) := by
  cases step_next_cases h with
  | cpuReset call irq => exact .inl ⟨call, irq, rfl⟩
  | ppuReset call irq => exact .inr (.inl ⟨call, irq, rfl⟩)
  | halted tick => exact .inr (.inr ⟨tick, rfl⟩)
  | waiting _ running => exact absurd running hs
  | nmi _ running => exact absurd running hs
  | irq _ running => exact absurd running hs
  | unknown executes => exact absurd executes.1 hs
  | instr executes => exact absurd executes.1 hs

theorem step_of_cpuReset {s : State} {rest : List HostCall} (call : s.host = .cpuReset :: rest) :
    step s = .next (cpuReset s.afterCall) := by
  rw [step, nextCall, State.afterCall, call]
  rfl

/-- Settles O8, by the three cases of a step of a halted block; CPU reset clears the record whatever it was. -/
theorem onlyCpuResetLeavesTheHaltedState : Obligations.OnlyCpuResetLeavesTheHaltedState := by
  intro s record hs
  have halt : s.halted ≠ none := by rw [hs]; exact nofun
  refine ⟨fun tick => ?_, fun t ht hne => ?_, fun rest call => ⟨_, step_of_cpuReset call, rfl⟩⟩
  · obtain ⟨t, ht⟩ := step_next s
    rcases step_of_halted halt ht with ⟨-, irq, -⟩ | ⟨-, irq, -⟩ | ⟨-, rfl⟩
    · exact absurd irq tick
    · exact absurd irq tick
    · exact ht
  · rcases step_of_halted halt ht with ⟨call, -, -⟩ | ⟨-, -, rfl⟩ | ⟨-, rfl⟩
    · exact absurd call hne
    · rfl
    · rfl

end Sys2Proof.Machine
end

section
/-! The opcode table read from its rows (30_encoding.md R70, R71, R78, R79, R83): what a row encodes, what bytes decode
by, and the bytes that have no row. -/

namespace Sys2Proof

open Sys2Proof.Claims (undefinedBytes optionalBytes)

/-! ## Decoding and encoding -/

/-- Every instruction that the row of `op` makes has the row's option, and is encoded by `op` and the operand bytes that
it is made from. -/
def OpRow.Encodes (op : Byte) (row : OpRow) : Prop :=
  match row.form with
  | .f1 i => i.optional = row.optional ∧ encode i = [op]
  | .f2 make => ∀ d, (make d).optional = row.optional ∧ encode (make d) = [op, d]
  | .f3 make => ∀ w, (make w).optional = row.optional ∧ encode (make w) = [op, loByte w, hiByte w]

/-- The opcode table and the encoder agree, row by row (R76, R79). -/
theorem opRow_encodes {op : Byte} {row : OpRow} (h : opRow op = some row) : row.Encodes op := by
  have index : op = BitVec.ofNat 8 op.toNat := by rw [BitVec.ofNat_toNat, BitVec.setWidth_eq]
  unfold opRow at h
  split at h <;> cases h
  all_goals
    rw [‹op.toNat = _›] at index
    subst index
    dsimp only [OpRow.Encodes]
    intros
    exact ⟨rfl, rfl⟩

/-- What bytes decode by: the enabled row of the first, which makes the instruction from the bytes after it (R71, R83). -/
theorem row_of_decode {u : Bool} {bytes : List Byte} {i : Instr} {rest : List Byte}
    (h : decode u bytes = .ok (i, rest)) :
    ∃ op operands row, bytes = op :: operands ∧ opRow op = some row ∧ (row.optional && !u) = false ∧
      ((row.form = .f1 i ∧ operands = rest) ∨
        (∃ make d, row.form = .f2 make ∧ i = make d ∧ operands = d :: rest) ∨
        (∃ make lo hi, row.form = .f3 make ∧ i = make (word hi lo) ∧ operands = lo :: hi :: rest)) := by
  unfold decode at h
  split at h
  case h_1 => cases h
  case h_2 op operands =>
    split at h
    case h_1 => cases h
    case h_2 row hrow =>
      split_ifs at h with disabled
      refine ⟨op, operands, row, rfl, hrow, Bool.eq_false_iff.mpr disabled, ?_⟩
      split at h <;> cases h
      case h_1 form => exact .inl ⟨form, rfl⟩
      case h_2 make d form => exact .inr (.inl ⟨make, d, form, rfl, rfl⟩)
      case h_3 make lo hi form => exact .inr (.inr ⟨make, lo, hi, form, rfl, rfl⟩)

/-- An instruction is of the machine when its row is enabled (R83). -/
theorem Instr.wellFormed_iff {u : Bool} {i : Instr} : i.wellFormed u = true ↔ (i.optional && !u) = false := by
  cases u <;> simp [Instr.wellFormed]

/-- Settles O1, by the row that encodes the instruction. -/
theorem decodeOfEncodeIsTheInstruction : Obligations.DecodeOfEncodeIsTheInstruction :=
  fun _ _ rest h => decode_encode h rest

/-- Settles O2: the row that the bytes decode by encodes the instruction it makes. -/
theorem encodeOfDecodeIsTheBytes : Obligations.EncodeOfDecodeIsTheBytes := by
  intro u bytes i rest h
  obtain ⟨op, operands, ⟨form, optional⟩, rfl, hrow, enabled, made⟩ := row_of_decode h
  have encodes := opRow_encodes hrow
  rw [Instr.wellFormed_iff]
  rcases made with ⟨rfl, rfl⟩ | ⟨make, d, rfl, rfl, rfl⟩ | ⟨make, lo, hi, rfl, rfl, rfl⟩
  · obtain ⟨option, bytes⟩ := encodes
    rw [option, bytes]
    exact ⟨enabled, rfl⟩
  · obtain ⟨option, bytes⟩ := encodes d
    rw [option, bytes]
    exact ⟨enabled, rfl⟩
  · obtain ⟨option, bytes⟩ := encodes (word hi lo)
    rw [option, bytes, loByte_word, hiByte_word]
    exact ⟨enabled, rfl⟩

/-! ## The undefined bytes -/

/-- A byte whose rows are all disabled is an undefined one, and with `UNOFFICIAL` none of the seven optional ones (R78,
R79). -/
theorem undefined_of_disabled : ∀ (u : Bool) (op : Byte), (∀ row ∈ opRow op, (row.optional && !u) = true) →
    op ∈ undefinedBytes ∧ (u = true → op ∉ optionalBytes) := by
  decide

/-- The decoder rejects a byte as unknown only if its row, if it has one, is disabled. -/
theorem disabled_of_decode {u : Bool} {op : Byte} {rest : List Byte}
    (h : decode u (op :: rest) = .error (.unknownOpcode op)) : ∀ row ∈ opRow op, (row.optional && !u) = true := by
  intro row hrow
  by_contra enabled
  rw [decode, Option.mem_def.mp hrow] at h
  simp only [enabled, Bool.false_eq_true, if_false] at h
  split at h <;> cases h

theorem decode_unknown_iff (u : Bool) (op : Byte) (rest : List Byte) :
    decode u (op :: rest) = .error (.unknownOpcode op) ↔ op ∈ undefinedBytes ∧ (u = true → op ∉ optionalBytes) :=
  ⟨fun h => undefined_of_disabled u op (disabled_of_decode h), fun ⟨h, hu⟩ => Machine.decode_of_undefined h hu rest⟩

/-- Settles O3, at each setting of `UNOFFICIAL`. -/
theorem undefinedOpcodesAreThe105 : Obligations.UndefinedOpcodesAreThe105 := by
  intro op b1 b2
  rw [decode_unknown_iff, decode_unknown_iff]
  simp

/-! ## Words of the table -/

/-- Settles O4, by running the decoder on the ten words. -/
theorem specWordsDecodeToTheirInstructions : Obligations.SpecWordsDecodeToTheirInstructions := by
  unfold Obligations.SpecWordsDecodeToTheirInstructions
  decide

end Sys2Proof
end

section
/-! Instructions of the remaining families: the stores (41_load_store_transfer.md section 2), BIT
(42_arithmetic_logic_compare.md section 5), the flag instructions and NOP (45_flags_system.md sections 1 and 2) and the
optional AAX, AAC and ARR (48_unofficial.md). -/

namespace Sys2Proof.Machine

/-! ## Stores -/

/-- What an instruction built on `storeInstr` does, when the byte it stores is made of the index registers and `A`
(R123 to R125, R222). -/
theorem stores_of_storeInstr {i : Instr} {m : Operand} {cost : Nat} (v : Byte → Byte → Byte → Byte) {s : State}
    (hs : s.mem.wf) (run : exec i s = storeInstr m cost (fun t => v t.a t.x t.y) s) :
    Claims.Stores i m (operandLength m) cost (v s.a s.x s.y) s :=
  ⟨_, run.trans (storeInstr_eq m cost _ s),
    ⟨rawRead_memWrite_same (s := advance _ s) hs _ _, fun _ h => rawRead_memWrite_other (advance _ s) h _⟩, rfl⟩

/-- Settles O43: every form is `storeInstr` with the byte of its instruction. -/
theorem storesWriteOneCell : Obligations.StoresWriteOneCell := by
  intro s d w ⟨hmem, _⟩
  have sta {i m cost} := @stores_of_storeInstr i m cost (fun a _ _ => a) s hmem
  have stx {i m cost} := @stores_of_storeInstr i m cost (fun _ x _ => x) s hmem
  have sty {i m cost} := @stores_of_storeInstr i m cost (fun _ _ y => y) s hmem
  have aax {i m cost} := @stores_of_storeInstr i m cost (fun a x _ => a &&& x) s hmem
  exact ⟨sta rfl, sta rfl, sta rfl, sta rfl, sta rfl, sta rfl, sta rfl, stx rfl, stx rfl, stx rfl,
    sty rfl, sty rfl, sty rfl, aax rfl, aax rfl, aax rfl, aax rfl⟩

/-! ## BIT -/

/-- Settles O49: both forms are `readInstr` with the bit test. -/
theorem bitTestInstruction : Obligations.BitTestInstruction := by
  intro s d w
  have bit {i m cost penalised} := @reads_of_readInstr i m cost penalised _ bitTest_valueUpdate.update s
  exact ⟨bit rfl, bit rfl⟩

/-! ## AAC and ARR -/

/-- ARR's byte as arithmetic: `A` and the operand, rotated right through the carry (R223). -/
theorem arr_result (a m : Byte) (p : Flags) :
    (arr a m p).1 = BitVec.ofNat 8 ((a &&& m).toNat / 2 + p.c.toNat * 128) :=
  ror_result (a &&& m) p

/-- Settles O56: AAC and ARR are `readInstr` with their ALU operations. -/
theorem optionalAndInstructions : Obligations.OptionalAndInstructions := by
  intro s d
  have aac_ {i m cost penalised} := @reads_of_readInstr i m cost penalised _ (aluA_update aac) s
  have arr_ {i m cost penalised} := @reads_of_readInstr i m cost penalised _ (aluA_update arr) s
  refine ⟨aac_ rfl, aac_ rfl, ?_⟩
  simp only [← arr_result _ _ (State.p _)]
  exact arr_ rfl

/-! ## Flag instructions and NOP -/

/-- A change of the flags alone. -/
theorem mapP_update (g : Flags → Flags) : RegisterUpdate fun t => t.setP (g t.p) :=
  ⟨fun _ _ => rfl, fun _ => rfl⟩

/-- Settles O54: each is `impliedInstr` with a change of the flags alone, NOP with none. -/
theorem flagInstructionsAndNop : Obligations.FlagInstructionsAndNop := by
  intro s
  have flags g := (mapP_update g).complete_advance 2 s
  exact ⟨flags fun p => { p with c := false }, flags fun p => { p with c := true },
    flags fun p => { p with i := false }, flags fun p => { p with i := true },
    flags fun p => { p with v := false }, flags fun p => { p with d := false },
    flags fun p => { p with d := true }, flags id⟩

end Sys2Proof.Machine
end

section
/-! The system tick (70_reset_and_hazards.md R298), the two resets (R290, R293) and the values they leave (10_state.md
R34). -/

namespace Sys2Proof.Machine

/-! ## The Timing Unit in a system tick -/

/-- Settles O19: the Scheduler tick leaves the counters, and the Timing Unit then ticks `PPU_PER_CPU` times. -/
theorem timingUnitAdvancesEveryTick : Obligations.TimingUnitAdvancesEveryTick := by
  intro s t irq hi hr ht running
  obtain ⟨u, tick, -, -, frame⟩ := cpuTick_frame irq s.afterCall
  cases ht.symm.trans (step_of_cpuTick hi hr tick)
  rw [ppuPhase_halted] at running
  rw [ppuPhase_of_running running, ppuTicks_dot, frame]
  rfl

/-! ## CPU reset -/

/-- A listed address reads 0, and so does a cell that was 0: no write of the list stores anything else (R290). -/
theorem rawRead_zeroCells {addrs : List Word} {a : Word} {s : State} (hs : s.mem.wf)
    (h : a ∈ addrs ∨ rawRead a s = 0x00#8) : rawRead a (zeroCells addrs s) = 0x00#8 := by
  induction addrs generalizing s with
  | nil => simpa [zeroCells] using h
  | cons b rest ih =>
    rw [zeroCells]
    refine ih (Memory.write_wf hs _ _) ?_
    by_cases same : mirror a = mirror b
    · exact .inr (rawRead_rawWrite_same hs same _)
    · rw [rawRead_rawWrite_other s same]
      have other : a ≠ b := fun e => same (e ▸ rfl)
      simpa [other] using h

/-- Settles O57, from the cells that the reset zeroes, those it leaves, and its frame. -/
theorem cpuResetLeavesItsValues : Obligations.CpuResetLeavesItsValues := by
  intro s rest ⟨hs, _⟩ call
  refine ⟨_, step_of_cpuReset call, fun a ha => rawRead_zeroCells (s := s.afterCall) hs (.inl ha),
    fun b hb => rawRead_zeroCells_other hb s.afterCall, ?_⟩
  have host : s.afterCall.host = rest := by rw [State.afterCall_host, call, List.tail_cons]
  rw [cpuReset_frame, host]
  rfl

/-! ## Timing Unit reset -/

theorem step_of_ppuReset {s : State} {rest : List HostCall} (call : s.host = .ppuReset :: rest) :
    step s = .next (ppuReset { s with host := rest }) := by
  rw [step, nextCall, call]
  rfl

/-- Settles O58: the reset replaces the Timing Unit but for video memory. -/
theorem ppuResetLeavesItsValues : Obligations.PpuResetLeavesItsValues :=
  fun _ _ call => step_of_ppuReset call

/-! ## The reset state -/

/-- Settles O15, by the literal values of the reset state; its status byte and its vector are evaluated. -/
theorem resetStateIsWellFormed : Obligations.ResetStateIsWellFormed := by
  unfold Obligations.ResetStateIsWellFormed
  decide

end Sys2Proof.Machine
end

section
/-! Boot (70_reset_and_hazards.md R292, R296): the image and the character data as runs of bytes in the two arrays, the
reset that zeroes its set of cells around them, and the state the steps start from. -/

namespace Sys2Proof.Machine

/-! ## A run of bytes -/

/-- `m` with the bytes stored in the cells from `n` on. -/
def Memory.writeRun (m : Memory) (n : Nat) : List Byte → Memory
  | [] => m
  | v :: rest => (m.write n v).writeRun (n + 1) rest

theorem Memory.writeRun_wf {m : Memory} (hm : m.wf) (n : Nat) (bytes : List Byte) : (m.writeRun n bytes).wf := by
  induction bytes generalizing m n with
  | nil => exact hm
  | cons v rest ih => exact ih (Memory.write_wf hm n v) (n + 1)

theorem Memory.read_writeRun_outside (m : Memory) {n k : Nat} {bytes : List Byte} (h : k < n ∨ n + bytes.length ≤ k) :
    (m.writeRun n bytes).read k = m.read k := by
  induction bytes generalizing m n with
  | nil => rfl
  | cons v rest ih =>
    rw [List.length_cons] at h
    rw [writeRun, ih _ (by omega), Memory.read_write_other m v (by omega)]

theorem Memory.read_writeRun {m : Memory} (hm : m.wf) (n : Nat) {bytes : List Byte} {i : Nat} (h : i < bytes.length) :
    (m.writeRun n bytes).read (n + i) = bytes.getD i 0x00#8 := by
  induction bytes generalizing m n i with
  | nil => cases h
  | cons v rest ih =>
    rw [writeRun]
    cases i with
    | zero => rw [Memory.read_writeRun_outside _ (by omega), Nat.add_zero, Memory.read_write_same hm]; rfl
    | succ i =>
      rw [show n + (i + 1) = n + 1 + i by omega, ih (Memory.write_wf hm n v) (n + 1) (Nat.lt_of_succ_lt_succ h)]
      rfl

/-- `mirror` leaves every address from 0x4000 on (20_memory.md R41). -/
theorem mirror_ofNat_toNat {n : Nat} (h : 0x4000 ≤ n) (h' : n < 0x10000) : (mirror (BitVec.ofNat 16 n)).toNat = n := by
  have value : (BitVec.ofNat 16 n).toNat = n := by rw [BitVec.toNat_ofNat, Nat.mod_eq_of_lt h']
  rw [mirror_of_ge (by omega), value]

/-- A block write above the mirrors that does not wrap is a run of bytes in the array (R44). -/
theorem writeBlock_mem {n : Nat} {bytes : List Byte} (hn : 0x4000 ≤ n) (hlen : n + bytes.length ≤ 0x10000) (s : State) :
    (writeBlock (BitVec.ofNat 16 n) bytes s).mem = s.mem.writeRun n bytes := by
  induction bytes generalizing n s with
  | nil => rfl
  | cons v rest ih =>
    rw [List.length_cons] at hlen
    have next : BitVec.ofNat 16 n + 1#16 = BitVec.ofNat 16 (n + 1) := (BitVec.ofNat_add n 1).symm
    rw [writeBlock, next, ih (by omega) (by omega), rawWrite_eq, mirror_ofNat_toNat hn (by omega)]
    rfl

/-- Loading character data is a run of bytes in video memory (R296). -/
theorem loadVram_vram (i : Nat) (bytes : List Byte) (s : State) :
    (loadVram i bytes s).ppu.vram = s.ppu.vram.writeRun i bytes := by
  induction bytes generalizing i s with
  | nil => rfl
  | cons v rest ih => exact ih (i + 1) _

theorem loadVram_mem (i : Nat) (bytes : List Byte) (s : State) : (loadVram i bytes s).mem = s.mem := by
  rw [loadVram_frame]

theorem writeBlock_ppu (addr : Word) (bytes : List Byte) (s : State) : (writeBlock addr bytes s).ppu = s.ppu := by
  rw [writeBlock_frame]

/-! ## The image in the array -/

/-- `m` with the program image: from 0x8000 on, and a single bank again from 0xC000 on (R296). -/
def Memory.withImage (m : Memory) (prg : List Byte) : Memory :=
  if prg.length = 0x4000 then (m.writeRun 0x8000 prg).writeRun 0xC000 prg else m.writeRun 0x8000 prg

section
variable {m : Memory} {prg : List Byte}

theorem Memory.withImage_wf (hm : m.wf) : (m.withImage prg).wf := by
  unfold Memory.withImage
  split_ifs
  · exact Memory.writeRun_wf (Memory.writeRun_wf hm _ _) _ _
  · exact Memory.writeRun_wf hm _ _

theorem Memory.read_withImage_below {k : Nat} (hk : k < 0x8000) : (m.withImage prg).read k = m.read k := by
  unfold Memory.withImage
  split_ifs
  · rw [Memory.read_writeRun_outside _ (by omega), Memory.read_writeRun_outside _ (by omega)]
  · rw [Memory.read_writeRun_outside _ (by omega)]

/-- The image begins at 0x8000: the copy of a single bank lies past its end. -/
theorem Memory.read_withImage (hm : m.wf) {i : Nat} (hi : i < prg.length) :
    (m.withImage prg).read (0x8000 + i) = prg.getD i 0x00#8 := by
  unfold Memory.withImage
  split_ifs
  · rw [Memory.read_writeRun_outside _ (by omega), Memory.read_writeRun hm _ hi]
  · rw [Memory.read_writeRun hm _ hi]

theorem Memory.read_withImage_copy (hm : m.wf) (one : prg.length = 0x4000) {i : Nat} (hi : i < 0x4000) :
    (m.withImage prg).read (0xC000 + i) = prg.getD i 0x00#8 := by
  rw [Memory.withImage, if_pos one, Memory.read_writeRun (Memory.writeRun_wf hm _ _) _ (by omega)]

/-- The top of the address space holds the end of the image, of one bank or of two. -/
theorem Memory.read_withImage_end (hm : m.wf) (fits : prg.length = 0x4000 ∨ prg.length = 0x8000) {j : Nat}
    (hj : 0 < j) (hj' : j ≤ 0x4000) : (m.withImage prg).read (0x10000 - j) = prg.getD (prg.length - j) 0x00#8 := by
  rcases fits with one | two
  · rw [show 0x10000 - j = 0xC000 + (0x4000 - j) by omega, Memory.read_withImage_copy hm one (by omega), one]
  · rw [show 0x10000 - j = 0x8000 + (0x8000 - j) by omega, Memory.read_withImage hm (by omega), two]

end

/-! ## The loaded state -/

theorem mapperInit_mem {prg : List Byte} (fits : prg.length = 0x4000 ∨ prg.length = 0x8000) (chr : List Byte)
    (s : State) : (mapperInit prg chr s).mem = s.mem.withImage prg := by
  have bank := writeBlock_mem (n := 0x8000) (bytes := prg) (by omega) (by omega) s
  unfold mapperInit Memory.withImage
  split_ifs with one
  · rw [loadVram_mem, writeBlock_mem (n := 0xC000) (by omega) (by omega), bank]
  · rw [loadVram_mem, bank]

section
variable (prg chr : List Byte) (s : State)

theorem mapperInit_vram : (mapperInit prg chr s).ppu.vram = s.ppu.vram.writeRun 0 chr := by
  unfold mapperInit
  rw [loadVram_vram]
  split_ifs
  · rw [writeBlock_ppu, writeBlock_ppu]
  · rw [writeBlock_ppu]

theorem mapperInit_cfg : (mapperInit prg chr s).cfg = s.cfg := by rw [mapperInit_frame]

theorem mapperInit_host : (mapperInit prg chr s).host = s.host := by rw [mapperInit_frame]

end

/-! ## The resets of boot -/

theorem read_zeroCells_outside {addrs : List Word} {k : Nat} (h : ∀ a ∈ addrs, k ≠ (mirror a).toNat) (s : State) :
    (zeroCells addrs s).mem.read k = s.mem.read k := by
  induction addrs generalizing s with
  | nil => rfl
  | cons a rest ih =>
    obtain ⟨ha, hrest⟩ := List.forall_mem_cons.mp h
    rw [zeroCells, ih hrest, rawWrite_eq, Memory.read_write_other _ _ ha]

/-- The two resets leave nothing of a state but its parameters, its calls and the two arrays (R290, R293). -/
theorem ppuReset_cpuReset (s : State) :
    ppuReset (cpuReset s) = { State.reset with
      pc := word (rawRead 0xFFFD#16 (zeroCells s.cfg.apuZeroSet s)) (rawRead 0xFFFC#16 (zeroCells s.cfg.apuZeroSet s))
      p := s.cfg.pReset
      wait := s.cfg.resetCost
      mem := (zeroCells s.cfg.apuZeroSet s).mem
      ppu := { TimingUnit.reset with vram := s.ppu.vram }
      host := s.host
      cfg := s.cfg } := by
  rw [cpuReset_frame]
  rfl

/-- What boot makes of an image that fits: the array holds the image and zeroes, video memory the character data, and
every other field is as after reset (R296). -/
theorem boot_next {prg chr : List Byte} (fits : imageFits prg chr) {mem0 : Memory} (hmem : mem0.wf) (vram0 : Memory)
    (cfg : Config) (calls : List HostCall) :
    ∃ t, boot prg chr mem0 vram0 cfg calls = .next t ∧
      (∀ k, (∀ a ∈ cfg.apuZeroSet, k ≠ (mirror a).toNat) → t.mem.read k = (mem0.withImage prg).read k) ∧
      (∀ a ∈ cfg.apuZeroSet, rawRead a t = 0x00#8) ∧
      t.ppu.vram = vram0.writeRun 0 chr ∧
      t = { State.reset with
        pc := word (rawRead 0xFFFD#16 t) (rawRead 0xFFFC#16 t)
        p := cfg.pReset
        wait := cfg.resetCost
        mem := t.mem
        ppu := { TimingUnit.reset with vram := t.ppu.vram }
        host := calls
        cfg := cfg } := by
  have booted : boot prg chr mem0 vram0 cfg calls =
      .next (ppuReset (cpuReset (mapperInit prg chr (unbooted mem0 vram0 cfg calls)))) := if_pos fits
  have image := mapperInit_mem fits.1 chr (unbooted mem0 vram0 cfg calls)
  have loaded_wf := image ▸ Memory.withImage_wf hmem
  rw [ppuReset_cpuReset, mapperInit_cfg, mapperInit_host] at booted
  exact ⟨_, booted, fun k hk => (read_zeroCells_outside hk _).trans (congrArg (Memory.read · k) image),
    fun a ha => rawRead_zeroCells loaded_wf (.inl ha), mapperInit_vram prg chr _, rfl⟩

/-- Settles O59: the zeroed cells lie between those that keep `mem0` and the image, which gives the reset vector. -/
theorem bootPlacesTheImageAndStartsAtItsVector : Obligations.BootPlacesTheImageAndStartsAtItsVector := by
  intro prg chr mem0 vram0 cfg calls hmem hvram zeroed hprg hchr
  obtain ⟨t, booted, kept, cleared, video, frame⟩ := boot_next ⟨hprg, hchr⟩ hmem vram0 cfg calls
  have mapped : ∀ a ∈ cfg.apuZeroSet, mirror a = a := fun a ha => mirror_of_ge (zeroed a ha).1
  have rom : ∀ k, 0x8000 ≤ k → k < 0x10000 → rawRead (BitVec.ofNat 16 k) t = (mem0.withImage prg).read k := by
    intro k hk hk'
    rw [rawRead_eq, mirror_ofNat_toNat (by omega) hk']
    refine kept k fun a ha => ?_
    have range := zeroed a ha
    rw [mapped a ha]
    omega
  refine ⟨t, booted, fun i hi => ?_, fun one i hi => ?_, fun k hk hne => ?_, cleared, fun i hi => ?_,
    fun i hi => ?_, ?_⟩
  · rw [rom _ (by omega) (by omega), Memory.read_withImage hmem hi]
  · rw [rom _ (by omega) (by omega), Memory.read_withImage_copy hmem one hi]
  · rw [kept k fun a ha => (mapped a ha).symm ▸ hne a ha, Memory.read_withImage_below hk]
  · rw [video, ← Nat.zero_add i, Memory.read_writeRun hvram 0 hi, Nat.zero_add]
  · rw [video, Memory.read_writeRun_outside _ (by omega)]
  · have low := Memory.read_withImage_end hmem hprg (j := 4) (by omega) (by omega)
    have high := Memory.read_withImage_end hmem hprg (j := 3) (by omega) (by omega)
    rw [← high, ← low, ← rom _ (by omega) (by omega), ← rom _ (by omega) (by omega)]
    exact frame

end Sys2Proof.Machine
end
